-- ==== Sys2Proof/Word.lean ====
section
/-! DEFINITION. The two value widths of the machine (R5, R7): every register and memory cell is a byte, every
address and the program counter a word. BitVec addition and subtraction wrap at the width, which is R7's
"every register write takes the value mod 2^width". -/

namespace Sys2Proof

/-- R7: a byte is an unsigned integer 0..255. -/
abbrev Byte := BitVec 8

/-- R7: a word is an unsigned integer 0..65535. -/
abbrev Word := BitVec 16

end Sys2Proof
end

