-- ==== Sys2Proof/Machine/Bits.lean ====
section
/-! DEFINITION. The bit-field, extension and byte-order helpers of R7, used by the decoder, the encoder and the machine. -/

namespace Sys2Proof

/-- R7: `lo(w)` is w[7:0]. -/
def lo (w : Word) : Byte := w.extractLsb' 0 8

/-- R7: `hi(w)` is w[15:8]. -/
def hi (w : Word) : Byte := w.extractLsb' 8 8

/-- R7: `hi ++ lo` is the word (hi << 8) | lo. -/
def cat (h l : Byte) : Word := h ++ l

/-- R7: the byte as a word. -/
def zext16 (b : Byte) : Word := b.setWidth 16

/-- R7: the byte sign-extended to a word (b, or b + $FF00 when b[7] = 1). -/
def sext16 (b : Byte) : Word := b.signExtend 16

/-- R7: `v[7]` of a byte. -/
def bit7 (b : Byte) : Bool := b.getLsbD 7

/-- The byte whose bit i is `f i`. -/
def byteOf (f : Nat → Bool) : Byte :=
  (List.range 8).foldl (fun b i => if f i then b ||| (1#8 <<< i) else b) 0

end Sys2Proof
end

