-- ==== Sys2Proof/Syntax.lean ====
section
/-! DEFINITION. The syntax of the instruction set: the 13 addressing modes, the operand forms of each access kind
(R69), the 57 mnemonics of spec/opcode_table.json, and the one inductive of instructions. The table gives an opcode
row for each addressing mode of a mnemonic: the mode is the operand's constructor here, so that a row is a mnemonic
together with an operand form, and an instruction term says both. -/

namespace Sys2Proof

/-- The 13 addressing modes (R57, R70 to R82). -/
inductive Mode where
  | implied | accumulator | immediate | zeroPage | zeroPageX | zeroPageY | absolute | absoluteX | absoluteY
  | indirect | indirectX | indirectY | relative
  deriving DecidableEq, Repr, Inhabited

/-- The operand forms with an effective address for a data access (R73 to R78, R80, R81). -/
inductive MemOperand where
  | zeroPage (b : Byte)
  | zeroPageX (b : Byte)
  | zeroPageY (b : Byte)
  | absolute (w : Word)
  | absoluteX (w : Word)
  | absoluteY (w : Word)
  | indirectX (b : Byte)
  | indirectY (b : Byte)
  deriving DecidableEq, Repr

/-- The operand of a read instruction (R69): the immediate byte, or a byte of memory. -/
inductive ReadOperand where
  | immediate (b : Byte)
  | memory (m : MemOperand)
  deriving DecidableEq, Repr

/-- The operand of ASL, LSR, ROL and ROR (R119): the accumulator, or a byte of memory read and written back. -/
inductive ShiftOperand where
  | accumulator
  | memory (m : MemOperand)
  deriving DecidableEq, Repr

/-- The operand of JMP (R124): the target itself, or the address of a pointer to it. -/
inductive JumpOperand where
  | absolute (w : Word)
  | indirect (w : Word)
  deriving DecidableEq, Repr

/-- The mnemonics of spec/opcode_table.json: the 56 of R61, and UNDEFINED for its 105 undefined rows (R62). -/
inductive Mnemonic where
  | lda | ldx | ldy | sta | stx | sty | tax | tay | txa | tya | tsx | txs
  | pha | php | pla | plp
  | adc | sbc | cmp | cpx | cpy | inc | dec | inx | iny | dex | dey
  | and | ora | eor | bit | asl | lsr | rol | ror
  | jmp | jsr | rts | rti | bpl | bmi | bvc | bvs | bcc | bcs | bne | beq | brk | nop
  | clc | cld | cli | clv | sec | sed | sei
  | undefined
  deriving DecidableEq, Repr

/-- The instructions. A branch carries its offset byte (R82); `undefined` carries the undefined opcode (R62). -/
inductive Instr where
  -- loads, stores, transfers (R86 to R97)
  | lda (o : ReadOperand) | ldx (o : ReadOperand) | ldy (o : ReadOperand)
  | sta (m : MemOperand) | stx (m : MemOperand) | sty (m : MemOperand)
  | tax | tay | txa | tya | tsx | txs
  -- stack (R98 to R101)
  | pha | php | pla | plp
  -- arithmetic, compare, increment, decrement (R103 to R114)
  | adc (o : ReadOperand) | sbc (o : ReadOperand)
  | cmp (o : ReadOperand) | cpx (o : ReadOperand) | cpy (o : ReadOperand)
  | inc (m : MemOperand) | dec (m : MemOperand)
  | inx | iny | dex | dey
  -- logic, bit test, shifts (R115 to R123)
  | and (o : ReadOperand) | ora (o : ReadOperand) | eor (o : ReadOperand) | bit (o : ReadOperand)
  | asl (o : ShiftOperand) | lsr (o : ShiftOperand) | rol (o : ShiftOperand) | ror (o : ShiftOperand)
  -- control (R124 to R138)
  | jmp (j : JumpOperand) | jsr (w : Word) | rts | rti
  | bpl (off : Byte) | bmi (off : Byte) | bvc (off : Byte) | bvs (off : Byte)
  | bcc (off : Byte) | bcs (off : Byte) | bne (off : Byte) | beq (off : Byte)
  | brk | nop
  -- flags (R139 to R145)
  | clc | cld | cli | clv | sec | sed | sei
  -- the unknown-opcode condition (R62, R150)
  | undefined (op : Byte)
  deriving DecidableEq, Repr

end Sys2Proof
end

