-- ==== Sys2Proof/WellFormed.lean ====
section
/-! DEFINITION. Which operand forms each instruction has (R61 and the encoding list of each instruction's rule), and
which bytes are undefined opcodes (R62). An instruction is well formed when the opcode map has a cell for it. -/

namespace Sys2Proof

/-- The memory forms of ORA, AND, EOR, ADC, LDA, CMP, SBC and STA (R59, cc = 01): all but zp,Y. -/
def MemOperand.accumulatorGroup : MemOperand → Bool
  | .zeroPageY _ => false
  | .zeroPage _ | .zeroPageX _ | .absolute _ | .absoluteX _ | .absoluteY _ | .indirectX _ | .indirectY _ => true

/-- The memory forms zp and abs. -/
def MemOperand.direct : MemOperand → Bool
  | .zeroPage _ | .absolute _ => true
  | .zeroPageX _ | .zeroPageY _ | .absoluteX _ | .absoluteY _ | .indirectX _ | .indirectY _ => false

/-- The memory forms zp, zp,X, abs and abs,X, of the shifts, INC, DEC and LDY. -/
def MemOperand.byX : MemOperand → Bool
  | .zeroPage _ | .zeroPageX _ | .absolute _ | .absoluteX _ => true
  | .zeroPageY _ | .absoluteY _ | .indirectX _ | .indirectY _ => false

/-- The memory forms zp, zp,Y, abs and abs,Y, of LDX. -/
def MemOperand.byY : MemOperand → Bool
  | .zeroPage _ | .zeroPageY _ | .absolute _ | .absoluteY _ => true
  | .zeroPageX _ | .absoluteX _ | .indirectX _ | .indirectY _ => false

/-- The memory forms zp, zp,Y and abs, of STX (R90: "There is no abs,Y form"). -/
def MemOperand.forStx : MemOperand → Bool
  | .zeroPage _ | .zeroPageY _ | .absolute _ => true
  | .zeroPageX _ | .absoluteX _ | .absoluteY _ | .indirectX _ | .indirectY _ => false

/-- The memory forms zp, zp,X and abs, of STY (R91: "There is no abs,X form"). -/
def MemOperand.forSty : MemOperand → Bool
  | .zeroPage _ | .zeroPageX _ | .absolute _ => true
  | .zeroPageY _ | .absoluteX _ | .absoluteY _ | .indirectX _ | .indirectY _ => false

/-- A read operand whose memory form passes `ok`, the immediate form included. -/
def ReadOperand.immediateOr (ok : MemOperand → Bool) : ReadOperand → Bool
  | .immediate _ => true
  | .memory m => ok m

/-- A read operand whose memory form passes `ok`, with no immediate form. -/
def ReadOperand.memoryOnly (ok : MemOperand → Bool) : ReadOperand → Bool
  | .immediate _ => false
  | .memory m => ok m

/-- The operand forms of the four shifts (R120 to R123). -/
def ShiftOperand.ok : ShiftOperand → Bool
  | .accumulator => true
  | .memory m => m.byX

/-- R62's list of the 105 undefined opcode bytes, in the spec's order. -/
def undefinedOpcodes : List Byte :=
  [0x02, 0x03, 0x04, 0x07, 0x0B, 0x0C, 0x0F, 0x12, 0x13, 0x14, 0x17, 0x1A, 0x1B, 0x1C, 0x1F, 0x22, 0x23, 0x27,
   0x2B, 0x2F, 0x32, 0x33, 0x34, 0x37, 0x3A, 0x3B, 0x3C, 0x3F]
  ++ [0x42, 0x43, 0x44, 0x47, 0x4B, 0x4F, 0x52, 0x53, 0x54, 0x57, 0x5A, 0x5B, 0x5C, 0x5F, 0x62, 0x63, 0x64, 0x67,
   0x6B, 0x6F, 0x72, 0x73, 0x74, 0x77, 0x7A, 0x7B, 0x7C, 0x7F]
  ++ [0x80, 0x82, 0x83, 0x87, 0x89, 0x8B, 0x8F, 0x92, 0x93, 0x97, 0x9B, 0x9C, 0x9E, 0x9F, 0xA3, 0xA7, 0xAB, 0xAF,
   0xB2, 0xB3, 0xB7, 0xBB, 0xBF]
  ++ [0xC2, 0xC3, 0xC7, 0xCB, 0xCF, 0xD2, 0xD3, 0xD4, 0xD7, 0xDA, 0xDB, 0xDC, 0xDF, 0xE2, 0xE3, 0xE7, 0xEB, 0xEF,
   0xF2, 0xF3, 0xF4, 0xF7, 0xFA, 0xFB, 0xFC, 0xFF]

/-- The instruction has a cell in the opcode map (R61), or is one of the undefined bytes (R62). -/
def Instr.wf : Instr → Bool
  | .lda o | .adc o | .sbc o | .cmp o | .and o | .ora o | .eor o => o.immediateOr MemOperand.accumulatorGroup
  | .ldx o => o.immediateOr MemOperand.byY
  | .ldy o => o.immediateOr MemOperand.byX
  | .cpx o | .cpy o => o.immediateOr MemOperand.direct
  | .bit o => o.memoryOnly MemOperand.direct
  | .sta m => m.accumulatorGroup
  | .stx m => m.forStx
  | .sty m => m.forSty
  | .inc m | .dec m => m.byX
  | .asl o | .lsr o | .rol o | .ror o => o.ok
  | .undefined op => undefinedOpcodes.contains op
  | .jmp _ | .jsr _ => true
  | .tax | .tay | .txa | .tya | .tsx | .txs | .pha | .php | .pla | .plp => true
  | .inx | .iny | .dex | .dey | .rts | .rti | .brk | .nop => true
  | .bpl _ | .bmi _ | .bvc _ | .bvs _ | .bcc _ | .bcs _ | .bne _ | .beq _ => true
  | .clc | .cld | .cli | .clv | .sec | .sed | .sei => true

end Sys2Proof
end

