-- ==== Sys2Proof/Decode.lean ====
section
/-! DEFINITION. The opcode table (R61 and spec/opcode_table.json), the decoder, total on any bytes (R57, R60, R64), and
the encoder written from the same table. A byte of R62 decodes to `undefined`, by its own name, never to a neighbour. -/

namespace Sys2Proof

/-- One defined row of spec/opcode_table.json: opcode byte, mnemonic, mode, length, base cycles (R84), and whether the
row can take the page-crossing penalty (R83) or the branch penalty (R128). -/
structure OpRow where
  op : Byte
  mn : Mnemonic
  mode : Mode
  length : Nat
  cycles : Nat
  pagePenalty : Bool
  branchPenalty : Bool
  deriving DecidableEq, Repr

/-- The defined cells $00 to $0F of the opcode map (R61). -/
def opcodeRows0 : List OpRow :=
  [⟨0x00, .brk, .implied, 1, 7, false, false⟩,
   ⟨0x01, .ora, .indirectX, 2, 6, false, false⟩,
   ⟨0x05, .ora, .zeroPage, 2, 3, false, false⟩,
   ⟨0x06, .asl, .zeroPage, 2, 5, false, false⟩,
   ⟨0x08, .php, .implied, 1, 3, false, false⟩,
   ⟨0x09, .ora, .immediate, 2, 2, false, false⟩,
   ⟨0x0A, .asl, .accumulator, 1, 2, false, false⟩,
   ⟨0x0D, .ora, .absolute, 3, 4, false, false⟩,
   ⟨0x0E, .asl, .absolute, 3, 6, false, false⟩]

/-- The defined cells $10 to $1F of the opcode map (R61). -/
def opcodeRows1 : List OpRow :=
  [⟨0x10, .bpl, .relative, 2, 2, false, true⟩,
   ⟨0x11, .ora, .indirectY, 2, 5, true, false⟩,
   ⟨0x15, .ora, .zeroPageX, 2, 4, false, false⟩,
   ⟨0x16, .asl, .zeroPageX, 2, 6, false, false⟩,
   ⟨0x18, .clc, .implied, 1, 2, false, false⟩,
   ⟨0x19, .ora, .absoluteY, 3, 4, true, false⟩,
   ⟨0x1D, .ora, .absoluteX, 3, 4, true, false⟩,
   ⟨0x1E, .asl, .absoluteX, 3, 7, false, false⟩]

/-- The defined cells $20 to $2F of the opcode map (R61). -/
def opcodeRows2 : List OpRow :=
  [⟨0x20, .jsr, .absolute, 3, 6, false, false⟩,
   ⟨0x21, .and, .indirectX, 2, 6, false, false⟩,
   ⟨0x24, .bit, .zeroPage, 2, 3, false, false⟩,
   ⟨0x25, .and, .zeroPage, 2, 3, false, false⟩,
   ⟨0x26, .rol, .zeroPage, 2, 5, false, false⟩,
   ⟨0x28, .plp, .implied, 1, 4, false, false⟩,
   ⟨0x29, .and, .immediate, 2, 2, false, false⟩,
   ⟨0x2A, .rol, .accumulator, 1, 2, false, false⟩,
   ⟨0x2C, .bit, .absolute, 3, 4, false, false⟩,
   ⟨0x2D, .and, .absolute, 3, 4, false, false⟩,
   ⟨0x2E, .rol, .absolute, 3, 6, false, false⟩]

/-- The defined cells $30 to $3F of the opcode map (R61). -/
def opcodeRows3 : List OpRow :=
  [⟨0x30, .bmi, .relative, 2, 2, false, true⟩,
   ⟨0x31, .and, .indirectY, 2, 5, true, false⟩,
   ⟨0x35, .and, .zeroPageX, 2, 4, false, false⟩,
   ⟨0x36, .rol, .zeroPageX, 2, 6, false, false⟩,
   ⟨0x38, .sec, .implied, 1, 2, false, false⟩,
   ⟨0x39, .and, .absoluteY, 3, 4, true, false⟩,
   ⟨0x3D, .and, .absoluteX, 3, 4, true, false⟩,
   ⟨0x3E, .rol, .absoluteX, 3, 7, false, false⟩]

/-- The defined cells $40 to $4F of the opcode map (R61). -/
def opcodeRows4 : List OpRow :=
  [⟨0x40, .rti, .implied, 1, 6, false, false⟩,
   ⟨0x41, .eor, .indirectX, 2, 6, false, false⟩,
   ⟨0x45, .eor, .zeroPage, 2, 3, false, false⟩,
   ⟨0x46, .lsr, .zeroPage, 2, 5, false, false⟩,
   ⟨0x48, .pha, .implied, 1, 3, false, false⟩,
   ⟨0x49, .eor, .immediate, 2, 2, false, false⟩,
   ⟨0x4A, .lsr, .accumulator, 1, 2, false, false⟩,
   ⟨0x4C, .jmp, .absolute, 3, 3, false, false⟩,
   ⟨0x4D, .eor, .absolute, 3, 4, false, false⟩,
   ⟨0x4E, .lsr, .absolute, 3, 6, false, false⟩]

/-- The defined cells $50 to $5F of the opcode map (R61). -/
def opcodeRows5 : List OpRow :=
  [⟨0x50, .bvc, .relative, 2, 2, false, true⟩,
   ⟨0x51, .eor, .indirectY, 2, 5, true, false⟩,
   ⟨0x55, .eor, .zeroPageX, 2, 4, false, false⟩,
   ⟨0x56, .lsr, .zeroPageX, 2, 6, false, false⟩,
   ⟨0x58, .cli, .implied, 1, 2, false, false⟩,
   ⟨0x59, .eor, .absoluteY, 3, 4, true, false⟩,
   ⟨0x5D, .eor, .absoluteX, 3, 4, true, false⟩,
   ⟨0x5E, .lsr, .absoluteX, 3, 7, false, false⟩]

/-- The defined cells $60 to $6F of the opcode map (R61). -/
def opcodeRows6 : List OpRow :=
  [⟨0x60, .rts, .implied, 1, 6, false, false⟩,
   ⟨0x61, .adc, .indirectX, 2, 6, false, false⟩,
   ⟨0x65, .adc, .zeroPage, 2, 3, false, false⟩,
   ⟨0x66, .ror, .zeroPage, 2, 5, false, false⟩,
   ⟨0x68, .pla, .implied, 1, 4, false, false⟩,
   ⟨0x69, .adc, .immediate, 2, 2, false, false⟩,
   ⟨0x6A, .ror, .accumulator, 1, 2, false, false⟩,
   ⟨0x6C, .jmp, .indirect, 3, 5, false, false⟩,
   ⟨0x6D, .adc, .absolute, 3, 4, false, false⟩,
   ⟨0x6E, .ror, .absolute, 3, 6, false, false⟩]

/-- The defined cells $70 to $7F of the opcode map (R61). -/
def opcodeRows7 : List OpRow :=
  [⟨0x70, .bvs, .relative, 2, 2, false, true⟩,
   ⟨0x71, .adc, .indirectY, 2, 5, true, false⟩,
   ⟨0x75, .adc, .zeroPageX, 2, 4, false, false⟩,
   ⟨0x76, .ror, .zeroPageX, 2, 6, false, false⟩,
   ⟨0x78, .sei, .implied, 1, 2, false, false⟩,
   ⟨0x79, .adc, .absoluteY, 3, 4, true, false⟩,
   ⟨0x7D, .adc, .absoluteX, 3, 4, true, false⟩,
   ⟨0x7E, .ror, .absoluteX, 3, 7, false, false⟩]

/-- The defined cells $80 to $8F of the opcode map (R61). -/
def opcodeRows8 : List OpRow :=
  [⟨0x81, .sta, .indirectX, 2, 6, false, false⟩,
   ⟨0x84, .sty, .zeroPage, 2, 3, false, false⟩,
   ⟨0x85, .sta, .zeroPage, 2, 3, false, false⟩,
   ⟨0x86, .stx, .zeroPage, 2, 3, false, false⟩,
   ⟨0x88, .dey, .implied, 1, 2, false, false⟩,
   ⟨0x8A, .txa, .implied, 1, 2, false, false⟩,
   ⟨0x8C, .sty, .absolute, 3, 4, false, false⟩,
   ⟨0x8D, .sta, .absolute, 3, 4, false, false⟩,
   ⟨0x8E, .stx, .absolute, 3, 4, false, false⟩]

/-- The defined cells $90 to $9F of the opcode map (R61). -/
def opcodeRows9 : List OpRow :=
  [⟨0x90, .bcc, .relative, 2, 2, false, true⟩,
   ⟨0x91, .sta, .indirectY, 2, 6, false, false⟩,
   ⟨0x94, .sty, .zeroPageX, 2, 4, false, false⟩,
   ⟨0x95, .sta, .zeroPageX, 2, 4, false, false⟩,
   ⟨0x96, .stx, .zeroPageY, 2, 4, false, false⟩,
   ⟨0x98, .tya, .implied, 1, 2, false, false⟩,
   ⟨0x99, .sta, .absoluteY, 3, 5, false, false⟩,
   ⟨0x9A, .txs, .implied, 1, 2, false, false⟩,
   ⟨0x9D, .sta, .absoluteX, 3, 5, false, false⟩]

/-- The defined cells $A0 to $AF of the opcode map (R61). -/
def opcodeRowsA : List OpRow :=
  [⟨0xA0, .ldy, .immediate, 2, 2, false, false⟩,
   ⟨0xA1, .lda, .indirectX, 2, 6, false, false⟩,
   ⟨0xA2, .ldx, .immediate, 2, 2, false, false⟩,
   ⟨0xA4, .ldy, .zeroPage, 2, 3, false, false⟩,
   ⟨0xA5, .lda, .zeroPage, 2, 3, false, false⟩,
   ⟨0xA6, .ldx, .zeroPage, 2, 3, false, false⟩,
   ⟨0xA8, .tay, .implied, 1, 2, false, false⟩,
   ⟨0xA9, .lda, .immediate, 2, 2, false, false⟩,
   ⟨0xAA, .tax, .implied, 1, 2, false, false⟩,
   ⟨0xAC, .ldy, .absolute, 3, 4, false, false⟩,
   ⟨0xAD, .lda, .absolute, 3, 4, false, false⟩,
   ⟨0xAE, .ldx, .absolute, 3, 4, false, false⟩]

/-- The defined cells $B0 to $BF of the opcode map (R61). -/
def opcodeRowsB : List OpRow :=
  [⟨0xB0, .bcs, .relative, 2, 2, false, true⟩,
   ⟨0xB1, .lda, .indirectY, 2, 5, true, false⟩,
   ⟨0xB4, .ldy, .zeroPageX, 2, 4, false, false⟩,
   ⟨0xB5, .lda, .zeroPageX, 2, 4, false, false⟩,
   ⟨0xB6, .ldx, .zeroPageY, 2, 4, false, false⟩,
   ⟨0xB8, .clv, .implied, 1, 2, false, false⟩,
   ⟨0xB9, .lda, .absoluteY, 3, 4, true, false⟩,
   ⟨0xBA, .tsx, .implied, 1, 2, false, false⟩,
   ⟨0xBC, .ldy, .absoluteX, 3, 4, true, false⟩,
   ⟨0xBD, .lda, .absoluteX, 3, 4, true, false⟩,
   ⟨0xBE, .ldx, .absoluteY, 3, 4, true, false⟩]

/-- The defined cells $C0 to $CF of the opcode map (R61). -/
def opcodeRowsC : List OpRow :=
  [⟨0xC0, .cpy, .immediate, 2, 2, false, false⟩,
   ⟨0xC1, .cmp, .indirectX, 2, 6, false, false⟩,
   ⟨0xC4, .cpy, .zeroPage, 2, 3, false, false⟩,
   ⟨0xC5, .cmp, .zeroPage, 2, 3, false, false⟩,
   ⟨0xC6, .dec, .zeroPage, 2, 5, false, false⟩,
   ⟨0xC8, .iny, .implied, 1, 2, false, false⟩,
   ⟨0xC9, .cmp, .immediate, 2, 2, false, false⟩,
   ⟨0xCA, .dex, .implied, 1, 2, false, false⟩,
   ⟨0xCC, .cpy, .absolute, 3, 4, false, false⟩,
   ⟨0xCD, .cmp, .absolute, 3, 4, false, false⟩,
   ⟨0xCE, .dec, .absolute, 3, 6, false, false⟩]

/-- The defined cells $D0 to $DF of the opcode map (R61). -/
def opcodeRowsD : List OpRow :=
  [⟨0xD0, .bne, .relative, 2, 2, false, true⟩,
   ⟨0xD1, .cmp, .indirectY, 2, 5, true, false⟩,
   ⟨0xD5, .cmp, .zeroPageX, 2, 4, false, false⟩,
   ⟨0xD6, .dec, .zeroPageX, 2, 6, false, false⟩,
   ⟨0xD8, .cld, .implied, 1, 2, false, false⟩,
   ⟨0xD9, .cmp, .absoluteY, 3, 4, true, false⟩,
   ⟨0xDD, .cmp, .absoluteX, 3, 4, true, false⟩,
   ⟨0xDE, .dec, .absoluteX, 3, 7, false, false⟩]

/-- The defined cells $E0 to $EF of the opcode map (R61). -/
def opcodeRowsE : List OpRow :=
  [⟨0xE0, .cpx, .immediate, 2, 2, false, false⟩,
   ⟨0xE1, .sbc, .indirectX, 2, 6, false, false⟩,
   ⟨0xE4, .cpx, .zeroPage, 2, 3, false, false⟩,
   ⟨0xE5, .sbc, .zeroPage, 2, 3, false, false⟩,
   ⟨0xE6, .inc, .zeroPage, 2, 5, false, false⟩,
   ⟨0xE8, .inx, .implied, 1, 2, false, false⟩,
   ⟨0xE9, .sbc, .immediate, 2, 2, false, false⟩,
   ⟨0xEA, .nop, .implied, 1, 2, false, false⟩,
   ⟨0xEC, .cpx, .absolute, 3, 4, false, false⟩,
   ⟨0xED, .sbc, .absolute, 3, 4, false, false⟩,
   ⟨0xEE, .inc, .absolute, 3, 6, false, false⟩]

/-- The defined cells $F0 to $FF of the opcode map (R61). -/
def opcodeRowsF : List OpRow :=
  [⟨0xF0, .beq, .relative, 2, 2, false, true⟩,
   ⟨0xF1, .sbc, .indirectY, 2, 5, true, false⟩,
   ⟨0xF5, .sbc, .zeroPageX, 2, 4, false, false⟩,
   ⟨0xF6, .inc, .zeroPageX, 2, 6, false, false⟩,
   ⟨0xF8, .sed, .implied, 1, 2, false, false⟩,
   ⟨0xF9, .sbc, .absoluteY, 3, 4, true, false⟩,
   ⟨0xFD, .sbc, .absoluteX, 3, 4, true, false⟩,
   ⟨0xFE, .inc, .absoluteX, 3, 7, false, false⟩]

/-- The 151 defined opcodes (R61). -/
def opcodeTable : List OpRow :=
  opcodeRows0 ++ opcodeRows1 ++ opcodeRows2 ++ opcodeRows3 ++ opcodeRows4 ++ opcodeRows5 ++ opcodeRows6 ++ opcodeRows7
  ++ opcodeRows8 ++ opcodeRows9 ++ opcodeRowsA ++ opcodeRowsB ++ opcodeRowsC ++ opcodeRowsD ++ opcodeRowsE ++ opcodeRowsF

/-- The row of an opcode byte; none for the bytes of R62. -/
def rowOfOpcode (op : Byte) : Option OpRow := opcodeTable.find? (fun r => r.op == op)

/-- R57, R64: the length an opcode byte fixes; an undefined opcode is taken as length 1. -/
def opLength (op : Byte) : Nat := ((rowOfOpcode op).map OpRow.length).getD 1

/-- R57: the length of an instruction, by its addressing mode. -/
def modeLength : Mode → Nat
  | .implied | .accumulator => 1
  | .immediate | .zeroPage | .zeroPageX | .zeroPageY | .indirectX | .indirectY | .relative => 2
  | .absolute | .absoluteX | .absoluteY | .indirect => 3

/-! ### Operand forms and their bytes (R60) -/

/-- R39: the two operand bytes of a word, low byte first. -/
def wordBytes (w : Word) : List Byte := [lo w, hi w]

/-- The addressing mode of a memory form. -/
def MemOperand.mode : MemOperand → Mode
  | .zeroPage _ => .zeroPage
  | .zeroPageX _ => .zeroPageX
  | .zeroPageY _ => .zeroPageY
  | .absolute _ => .absolute
  | .absoluteX _ => .absoluteX
  | .absoluteY _ => .absoluteY
  | .indirectX _ => .indirectX
  | .indirectY _ => .indirectY

/-- The operand bytes of a memory form. -/
def MemOperand.bytes : MemOperand → List Byte
  | .zeroPage b | .zeroPageX b | .zeroPageY b | .indirectX b | .indirectY b => [b]
  | .absolute w | .absoluteX w | .absoluteY w => wordBytes w

/-- The addressing mode of a read operand. -/
def ReadOperand.mode : ReadOperand → Mode
  | .immediate _ => .immediate
  | .memory m => m.mode

/-- The operand bytes of a read operand. -/
def ReadOperand.bytes : ReadOperand → List Byte
  | .immediate b => [b]
  | .memory m => m.bytes

/-- The addressing mode of a shift's operand. -/
def ShiftOperand.mode : ShiftOperand → Mode
  | .accumulator => .accumulator
  | .memory m => m.mode

/-- The operand bytes of a shift's operand. -/
def ShiftOperand.bytes : ShiftOperand → List Byte
  | .accumulator => []
  | .memory m => m.bytes

/-- The addressing mode of JMP's operand. -/
def JumpOperand.mode : JumpOperand → Mode
  | .absolute _ => .absolute
  | .indirect _ => .indirect

/-- The operand bytes of JMP's operand. -/
def JumpOperand.bytes : JumpOperand → List Byte
  | .absolute w | .indirect w => wordBytes w

/-- The memory form a mode and the operand bytes make (R60). -/
def memForm (mode : Mode) (b1 b2 : Byte) : Option MemOperand :=
  match mode with
  | .zeroPage => some (.zeroPage b1)
  | .zeroPageX => some (.zeroPageX b1)
  | .zeroPageY => some (.zeroPageY b1)
  | .absolute => some (.absolute (cat b2 b1))
  | .absoluteX => some (.absoluteX (cat b2 b1))
  | .absoluteY => some (.absoluteY (cat b2 b1))
  | .indirectX => some (.indirectX b1)
  | .indirectY => some (.indirectY b1)
  | .implied | .accumulator | .immediate | .indirect | .relative => none

/-- The read operand a mode and the operand bytes make (R60). -/
def readForm (mode : Mode) (b1 b2 : Byte) : Option ReadOperand :=
  match mode with
  | .immediate => some (.immediate b1)
  | _ => (memForm mode b1 b2).map .memory

/-- The shift operand a mode and the operand bytes make (R60, R71). -/
def shiftForm (mode : Mode) (b1 b2 : Byte) : Option ShiftOperand :=
  match mode with
  | .accumulator => some .accumulator
  | _ => (memForm mode b1 b2).map .memory

/-- The jump operand a mode and the operand bytes make (R60, R79). -/
def jumpForm (mode : Mode) (b1 b2 : Byte) : Option JumpOperand :=
  match mode with
  | .absolute => some (.absolute (cat b2 b1))
  | .indirect => some (.indirect (cat b2 b1))
  | _ => none

/-- The instruction of a table row with its operand bytes; none where the mode is no form of the mnemonic. -/
def assemble (mn : Mnemonic) (mode : Mode) (b1 b2 : Byte) : Option Instr :=
  match mn with
  | .lda => (readForm mode b1 b2).map .lda
  | .ldx => (readForm mode b1 b2).map .ldx
  | .ldy => (readForm mode b1 b2).map .ldy
  | .sta => (memForm mode b1 b2).map .sta
  | .stx => (memForm mode b1 b2).map .stx
  | .sty => (memForm mode b1 b2).map .sty
  | .tax => some .tax
  | .tay => some .tay
  | .txa => some .txa
  | .tya => some .tya
  | .tsx => some .tsx
  | .txs => some .txs
  | .pha => some .pha
  | .php => some .php
  | .pla => some .pla
  | .plp => some .plp
  | .adc => (readForm mode b1 b2).map .adc
  | .sbc => (readForm mode b1 b2).map .sbc
  | .cmp => (readForm mode b1 b2).map .cmp
  | .cpx => (readForm mode b1 b2).map .cpx
  | .cpy => (readForm mode b1 b2).map .cpy
  | .inc => (memForm mode b1 b2).map .inc
  | .dec => (memForm mode b1 b2).map .dec
  | .inx => some .inx
  | .iny => some .iny
  | .dex => some .dex
  | .dey => some .dey
  | .and => (readForm mode b1 b2).map .and
  | .ora => (readForm mode b1 b2).map .ora
  | .eor => (readForm mode b1 b2).map .eor
  | .bit => (readForm mode b1 b2).map .bit
  | .asl => (shiftForm mode b1 b2).map .asl
  | .lsr => (shiftForm mode b1 b2).map .lsr
  | .rol => (shiftForm mode b1 b2).map .rol
  | .ror => (shiftForm mode b1 b2).map .ror
  | .jmp => (jumpForm mode b1 b2).map .jmp
  | .jsr => some (.jsr (cat b2 b1))
  | .rts => some .rts
  | .rti => some .rti
  | .bpl => some (.bpl b1)
  | .bmi => some (.bmi b1)
  | .bvc => some (.bvc b1)
  | .bvs => some (.bvs b1)
  | .bcc => some (.bcc b1)
  | .bcs => some (.bcs b1)
  | .bne => some (.bne b1)
  | .beq => some (.beq b1)
  | .brk => some .brk
  | .nop => some .nop
  | .clc => some .clc
  | .cld => some .cld
  | .cli => some .cli
  | .clv => some .clv
  | .sec => some .sec
  | .sed => some .sed
  | .sei => some .sei
  | .undefined => none

/-- The instruction of an opcode byte and the two bytes after it; a byte the opcode's length leaves out is not read
into it (R57). -/
def instrOf (op b1 b2 : Byte) : Instr :=
  match rowOfOpcode op with
  | none => .undefined op
  | some r => (assemble r.mn r.mode b1 b2).getD (.undefined op)

/-- Why a list of bytes holds no instruction. -/
inductive DecodeError where
  /-- no opcode byte -/
  | empty
  /-- fewer operand bytes than the opcode's length asks for -/
  | truncated (op : Byte)
  deriving DecidableEq, Repr

/-- The decoder: the first instruction of a list of bytes, and the bytes after it (R57, R64). -/
def decode : List Byte → Except DecodeError (Instr × List Byte)
  | [] => .error .empty
  | op :: rest =>
    match opLength op, rest with
    | 1, r => .ok (instrOf op 0 0, r)
    | 2, b1 :: r => .ok (instrOf op b1 0, r)
    | 3, b1 :: b2 :: r => .ok (instrOf op b1 b2, r)
    | _, _ => .error (.truncated op)

/-- The instruction the decoder reads from the `nbits` bits of `w`, byte 0 first, every further byte 0. -/
def decodeTableWord (nbits w : Nat) : Option Instr :=
  let v := w % 2 ^ nbits
  match decode [BitVec.ofNat 8 v, BitVec.ofNat 8 (v / 256), BitVec.ofNat 8 (v / 65536)] with
  | .ok (i, _) => some i
  | .error _ => none

/-! ### The encoder -/

/-- The mnemonic of an instruction. -/
def Instr.mnemonic : Instr → Mnemonic
  | .lda _ => .lda
  | .ldx _ => .ldx
  | .ldy _ => .ldy
  | .sta _ => .sta
  | .stx _ => .stx
  | .sty _ => .sty
  | .tax => .tax
  | .tay => .tay
  | .txa => .txa
  | .tya => .tya
  | .tsx => .tsx
  | .txs => .txs
  | .pha => .pha
  | .php => .php
  | .pla => .pla
  | .plp => .plp
  | .adc _ => .adc
  | .sbc _ => .sbc
  | .cmp _ => .cmp
  | .cpx _ => .cpx
  | .cpy _ => .cpy
  | .inc _ => .inc
  | .dec _ => .dec
  | .inx => .inx
  | .iny => .iny
  | .dex => .dex
  | .dey => .dey
  | .and _ => .and
  | .ora _ => .ora
  | .eor _ => .eor
  | .bit _ => .bit
  | .asl _ => .asl
  | .lsr _ => .lsr
  | .rol _ => .rol
  | .ror _ => .ror
  | .jmp _ => .jmp
  | .jsr _ => .jsr
  | .rts => .rts
  | .rti => .rti
  | .bpl _ => .bpl
  | .bmi _ => .bmi
  | .bvc _ => .bvc
  | .bvs _ => .bvs
  | .bcc _ => .bcc
  | .bcs _ => .bcs
  | .bne _ => .bne
  | .beq _ => .beq
  | .brk => .brk
  | .nop => .nop
  | .clc => .clc
  | .cld => .cld
  | .cli => .cli
  | .clv => .clv
  | .sec => .sec
  | .sed => .sed
  | .sei => .sei
  | .undefined _ => .undefined

/-- The addressing mode of an instruction; `undefined` is given Implied, which no rule reads (R150). -/
def Instr.mode : Instr → Mode
  | .lda o => o.mode
  | .ldx o => o.mode
  | .ldy o => o.mode
  | .sta o => o.mode
  | .stx o => o.mode
  | .sty o => o.mode
  | .tax => .implied
  | .tay => .implied
  | .txa => .implied
  | .tya => .implied
  | .tsx => .implied
  | .txs => .implied
  | .pha => .implied
  | .php => .implied
  | .pla => .implied
  | .plp => .implied
  | .adc o => o.mode
  | .sbc o => o.mode
  | .cmp o => o.mode
  | .cpx o => o.mode
  | .cpy o => o.mode
  | .inc o => o.mode
  | .dec o => o.mode
  | .inx => .implied
  | .iny => .implied
  | .dex => .implied
  | .dey => .implied
  | .and o => o.mode
  | .ora o => o.mode
  | .eor o => o.mode
  | .bit o => o.mode
  | .asl o => o.mode
  | .lsr o => o.mode
  | .rol o => o.mode
  | .ror o => o.mode
  | .jmp j => j.mode
  | .jsr _ => .absolute
  | .rts => .implied
  | .rti => .implied
  | .bpl _ => .relative
  | .bmi _ => .relative
  | .bvc _ => .relative
  | .bvs _ => .relative
  | .bcc _ => .relative
  | .bcs _ => .relative
  | .bne _ => .relative
  | .beq _ => .relative
  | .brk => .implied
  | .nop => .implied
  | .clc => .implied
  | .cld => .implied
  | .cli => .implied
  | .clv => .implied
  | .sec => .implied
  | .sed => .implied
  | .sei => .implied
  | .undefined _ => .implied

/-- The operand bytes of an instruction, in address order. -/
def Instr.operandBytes : Instr → List Byte
  | .lda o => o.bytes
  | .ldx o => o.bytes
  | .ldy o => o.bytes
  | .sta o => o.bytes
  | .stx o => o.bytes
  | .sty o => o.bytes
  | .tax => []
  | .tay => []
  | .txa => []
  | .tya => []
  | .tsx => []
  | .txs => []
  | .pha => []
  | .php => []
  | .pla => []
  | .plp => []
  | .adc o => o.bytes
  | .sbc o => o.bytes
  | .cmp o => o.bytes
  | .cpx o => o.bytes
  | .cpy o => o.bytes
  | .inc o => o.bytes
  | .dec o => o.bytes
  | .inx => []
  | .iny => []
  | .dex => []
  | .dey => []
  | .and o => o.bytes
  | .ora o => o.bytes
  | .eor o => o.bytes
  | .bit o => o.bytes
  | .asl o => o.bytes
  | .lsr o => o.bytes
  | .rol o => o.bytes
  | .ror o => o.bytes
  | .jmp j => j.bytes
  | .jsr w => wordBytes w
  | .rts => []
  | .rti => []
  | .bpl off => [off]
  | .bmi off => [off]
  | .bvc off => [off]
  | .bvs off => [off]
  | .bcc off => [off]
  | .bcs off => [off]
  | .bne off => [off]
  | .beq off => [off]
  | .brk => []
  | .nop => []
  | .clc => []
  | .cld => []
  | .cli => []
  | .clv => []
  | .sec => []
  | .sed => []
  | .sei => []
  | .undefined _ => []

/-- The table row of an instruction: its mnemonic and its mode. -/
def Instr.row (i : Instr) : Option OpRow :=
  opcodeTable.find? (fun r => r.mn == i.mnemonic && r.mode == i.mode)

/-- The opcode byte of an instruction (0 for an ill-formed one, which the decoder never gives). -/
def Instr.opcode : Instr → Byte
  | .undefined op => op
  | i => (i.row.map OpRow.op).getD 0

/-- R84: `base_cycles`, the `cycles` field of the instruction's row. -/
def Instr.baseCycles (i : Instr) : Nat := (i.row.map OpRow.cycles).getD 0

/-- R83: whether the instruction's row can take the page-crossing penalty. -/
def Instr.pagePenalty (i : Instr) : Bool := (i.row.map OpRow.pagePenalty).getD false

/-- The bytes of an instruction (R57). -/
def encode (i : Instr) : List Byte := i.opcode :: i.operandBytes

end Sys2Proof
end

