-- ==== Sys2Proof/Config.lean ====
section
/-! DEFINITION. The parameters of R6 as plain data, which the state carries and no step changes, and the values the
spec leaves open or calls "any value" (93_implementation_defined.md), each an opaque constant with no body: no proof
can see what it is. A parameter the spec marks OPEN is an Option: `none` is "no figure supplied", and the machine then
uses the opaque constant; `some` is a figure the caller of the model supplies. -/

namespace Sys2Proof

/-- R6 `VIC_MODEL`: the three VIC-II variants. -/
inductive VicModel where
  | ntsc | ntscOld | pal
  deriving DecidableEq, Repr

/-- R6 `PLATFORM`. `VIC_MODEL` is required for the C64 only, so it is part of that alternative. -/
inductive Platform where
  | bare
  | c64 (model : VicModel)
  deriving DecidableEq, Repr

/-- R6 `UNKNOWN_OPCODE_POLICY`. -/
inductive UnknownOpcodePolicy where
  | stop | skipAsNop
  deriving DecidableEq, Repr

/-- R162: the reason types an evaluator answers with. -/
inductive ReasonType where
  | debugBreakPoint | cycleLimit | instructionLimit | other
  deriving DecidableEq, Repr

/-- R162: a predicate over the CPU and memory state, as plain data. `external` is a predicate the model does not see
into, by its number. A byte of memory is looked at without the effects of reading it: an evaluator "must not change
state". -/
inductive Pred where
  | pcIs (w : Word)
  | aIs (b : Byte) | xIs (b : Byte) | yIs (b : Byte) | spIs (b : Byte)
  | statusHas (mask value : Byte)
  | memoryIs (w : Word) (b : Byte)
  | cyclesAtLeast (n : Nat)
  | instructionsAtLeast (n : Nat)
  | external (id : Nat)
  | negation (p : Pred)
  | both (p q : Pred)
  | either (p q : Pred)
  deriving DecidableEq, Repr

/-- R162: one entry of `EVALUATORS`. DESIGN CHOICE: its ReasonType and Description are fixed, and Triggered alone depends on
the state it is asked about (log entry 12). -/
structure Evaluator where
  pred : Pred
  reason : ReasonType
  description : String
  deriving DecidableEq, Repr

/-- R6, R171, D17: a function from the raster line and the VIC-II state to a natural number, as plain data: arithmetic on
natural numbers (subtraction stops at 0, and division by 0 gives 0), comparisons giving 1 or 0, and the parts of the
VIC-II state. `external` is a function the model does not see into, by its number (log entry 29). -/
inductive VicFn where
  | number (n : Nat)
  /-- the raster line -/
  | line
  | cycleInLine
  /-- 1 while the frame is complete (R168), else 0 -/
  | frameComplete
  /-- a register as last written -/
  | register (reg : Nat)
  /-- the value of a register that the frame in progress shows on a raster line (R175) -/
  | shown (reg line : Nat)
  | compare
  | latch
  | enable
  | add (f g : VicFn)
  | sub (f g : VicFn)
  | mul (f g : VicFn)
  | div (f g : VicFn)
  | mod (f g : VicFn)
  | bitAnd (f g : VicFn)
  | equal (f g : VicFn)
  | less (f g : VicFn)
  /-- the second where the first is not 0, else the third -/
  | choose (c f g : VicFn)
  | external (id : Nat)
  deriving DecidableEq, Repr

/-- R169: the timing constants of a VIC-II variant. -/
structure Timing where
  cyclesPerLine : Nat
  lines : Nat
  deriving DecidableEq, Repr

/-- R169: the visible-area constants of a VIC-II variant. -/
structure VisibleArea where
  linesVisible : Nat
  pixelsPerLine : Nat
  pixelsPerLineVisible : Nat
  deriving DecidableEq, Repr

/-- R6: a natural number per `VIC_MODEL`, OPEN: `none` where no figure is supplied for the variant. -/
structure PerVicModel where
  ntsc : Option Nat
  ntscOld : Option Nat
  pal : Option Nat
  deriving DecidableEq, Repr

/-- R6 `ROM_KERNAL`, `ROM_BASIC`, `ROM_CHARGEN`: byte strings supplied at build. -/
structure Roms where
  kernal : List Byte
  basic : List Byte
  chargen : List Byte
  deriving DecidableEq, Repr

/-- The parameters of R6. -/
structure Config where
  platform : Platform
  unknownOpcodePolicy : UnknownOpcodePolicy
  /-- `UNKNOWN_NOP_CYCLES`, OPEN -/
  unknownNopCycles : Option Nat
  stopOnBrk : Bool
  maxInstructions : Option Nat
  maxCycles : Option Nat
  /-- `BREAKPOINTS`: the first pair with the address says whether it is enabled -/
  breakpoints : List (Word × Bool)
  evaluators : List Evaluator
  /-- `CYCLES_PER_LINE` and `LINES` of `NTSC_old`, OPEN -/
  ntscOldTiming : Option Timing
  /-- `LINES_VISIBLE` -/
  linesVisible : PerVicModel
  /-- `PIXELS_PER_LINE` -/
  pixelsPerLine : PerVicModel
  /-- `PIXELS_PER_LINE_VISIBLE` -/
  pixelsPerLineVisible : PerVicModel
  /-- `BADLINE_STOLEN_CYCLES`, OPEN -/
  badlineStolenCycles : Option VicFn
  roms : Roms
  /-- `SID_CLOCK_HZ`, OPEN -/
  sidClockHz : Option Nat
  deriving DecidableEq, Repr

/-- R6's defaults: `Bare`, `Stop`, no stop on BRK, no budget, no breakpoint, no evaluator, and every OPEN parameter
left open. A bare machine has no ROM image. -/
def Config.default : Config where
  platform := .bare
  unknownOpcodePolicy := .stop
  unknownNopCycles := none
  stopOnBrk := false
  maxInstructions := none
  maxCycles := none
  breakpoints := []
  evaluators := []
  ntscOldTiming := none
  linesVisible := ⟨none, none, none⟩
  pixelsPerLine := ⟨none, none, none⟩
  pixelsPerLineVisible := ⟨none, none, none⟩
  badlineStolenCycles := none
  roms := { kernal := [], basic := [], chargen := [] }
  sidClockHz := none

/-! ### Open parameters: opaque, no body -/

/-- `UNKNOWN_NOP_CYCLES` where none is supplied (R150, D3). -/
opaque Config.openUnknownNopCycles : Nat

/-- `BADLINE_STOLEN_CYCLES` where none is supplied (R171, D17): a function of the raster line and the VIC-II state. -/
opaque Config.openBadlineStolenCycles {σ : Type} (line : Nat) (vic : σ) : Nat

/-- The value of a supplied `BADLINE_STOLEN_CYCLES` that the model does not see into. -/
opaque Config.externalVicFn {σ : Type} (id line : Nat) (vic : σ) : Nat

/-- One less than `SID_CLOCK_HZ` where none is supplied (R181, D23), or 0 is (log entry 11): R181 divides by the rate. -/
opaque Config.openSidClockHzPred : Nat

/-- One less than `CYCLES_PER_LINE` of `NTSC_old` where none is supplied (R169, D16): a line has at least one cycle. -/
opaque Config.openNtscOldCyclesPerLinePred : Nat

/-- One less than `LINES` of `NTSC_old` where none is supplied (R169, D16): a frame has at least one line. -/
opaque Config.openNtscOldLinesPred : Nat

/-- `LINES_VISIBLE` of a variant where none is supplied for it (R169). -/
opaque Config.openLinesVisible : VicModel → Nat

/-- `PIXELS_PER_LINE` of a variant where none is supplied for it (R169). -/
opaque Config.openPixelsPerLine : VicModel → Nat

/-- `PIXELS_PER_LINE_VISIBLE` of a variant where none is supplied for it (R169). -/
opaque Config.openPixelsPerLineVisible : VicModel → Nat

/-- The checksum of a ROM image (R193): the algorithm is not in the source. -/
opaque Config.checksum : List Byte → Nat

/-- The verdict of an evaluator the model does not see into (R162), on the state it is asked about. -/
opaque Config.externalEvaluator {σ : Type} (id : Nat) (s : σ) : Bool

/-! ### Free values ("any value": a fresh draw) -/

/-- The n-th byte drawn by a read that returns any value (93, items 7, 9, 10, 12, 16, 19). -/
opaque Config.freeByte : Nat → Byte

/-- What an unknown opcode records as `last_result.mode` (R150, 93 item 3), at the n-th draw. -/
opaque Config.freeMode : Nat → Mode

/-- A frame has at least one line, and a line at least one cycle. -/
def Timing.positive (t : Timing) : Bool := decide (0 < t.cyclesPerLine) && decide (0 < t.lines)

end Sys2Proof
end

