-- ==== Sys2Proof/Machine/State.lean ====
section
/-! DEFINITION. The state of the machine: the CPU (10_state.md), memory and its hook tables (R33), the VIC-II (R168),
the SID (R177) and the two CIAs (R183), the host's inputs (R167), the run bookkeeping (R29, R30), and the parameters
(R6). Plain data throughout. -/

namespace Sys2Proof.Machine

/-- Sparse byte storage: (address, byte) pairs in rising order, no entry equal to the byte $00 that an unlisted
address reads as. -/
abbrev Mem := List Host.Cell

/-! ### The CPU -/

/-- R16, R17: the six flags that P stores; bit 5 always reads 1 and bit 4 always reads 0 (`Status.toByte`). -/
structure Status where
  n : Bool
  v : Bool
  d : Bool
  i : Bool
  z : Bool
  c : Bool
  deriving DecidableEq, Repr

/-- R29: the InstructionExecResult record. -/
structure ExecResult where
  opcode : Byte
  mode : Mode
  operandBytes : List Byte
  cycles : Nat
  unknown : Bool
  deriving DecidableEq, Repr

/-- R161: the reasons the run loop stops. -/
inductive StopReason where
  | unknownOpcode (op : Byte) (addr : Word)
  | brk
  | instructionLimit
  | cycleLimit
  | debugBreakPoint
  | other
  deriving DecidableEq, Repr

/-- R30. -/
inductive RunStatus where
  | running
  | stopped (r : StopReason)
  deriving DecidableEq, Repr

/-- R146: which of its three things the last CPU step did; `none` before the first. -/
inductive StepKind where
  | none | nmiEntry | irqEntry | instruction
  deriving DecidableEq, Repr

/-- R162: what the evaluators answered after the last system step. -/
structure TriggerResult where
  triggered : Bool
  reasonType : ReasonType
  description : String
  deriving DecidableEq, Repr

/-- Where the current run began: what R161's "in this run" counts from. -/
structure RunBase where
  startCycles : Nat
  startInstructions : Nat
  deriving DecidableEq, Repr

/-! ### The VIC-II -/

/-- R175: a register write with its issuing raster line. -/
structure VicWrite where
  line : Nat
  reg : Nat
  value : Byte
  deriving DecidableEq, Repr

/-- R175: the registers as a frame began, and the writes made during it, oldest first. -/
structure FrameLog where
  start : Mem
  writes : List VicWrite
  deriving DecidableEq, Repr

/-- R168, R172, R174. `regs` holds the registers as last written, by register number 0 to 63. -/
structure Vic where
  rasterLine : Nat
  cycleInLine : Nat
  frameComplete : Bool
  regs : Mem
  compare : BitVec 9
  latch : BitVec 4
  enable : BitVec 4
  frame : FrameLog
  lastFrame : FrameLog
  deriving DecidableEq, Repr

/-! ### The SID -/

/-- R177, R179: the phase of a voice. -/
inductive Phase where
  | idle | attack | decay | sustain | release
  deriving DecidableEq, Repr

/-- R182: the kinds of AudioCommand. -/
inductive CommandKind where
  | startADS | startRelease | changeFrequency | changePulseWidth | changeVolume | stop | none
  deriving DecidableEq, Repr

/-- R182: an AudioCommand with "the voice's current frequency, pulse width, gain and ADSR durations". -/
structure AudioCommand where
  kind : CommandKind
  freq : BitVec 16
  pw : BitVec 12
  gain : Rat
  attackMs : Nat
  decayMs : Nat
  releaseMs : Nat
  deriving DecidableEq, Repr

/-- R177: one voice. `level` is an exact fraction. -/
structure Voice where
  freq : BitVec 16
  pw : BitVec 12
  control : Byte
  ad : Byte
  sr : Byte
  phase : Phase
  level : Rat
  lastCommand : AudioCommand
  deriving DecidableEq, Repr

/-- R177, R178: three voices, $D418, and the filter registers $D415 to $D417, stored with no effect. -/
structure Sid where
  voice0 : Voice
  voice1 : Voice
  voice2 : Voice
  modeVolume : Byte
  cutoffLo : Byte
  cutoffHi : Byte
  resonance : Byte
  deriving DecidableEq, Repr

/-! ### The CIAs -/

/-- R183 to R185: a timer with its control register CRA or CRB. -/
structure CiaTimer where
  counter : Word
  latch : Word
  control : Byte
  deriving DecidableEq, Repr

/-- R183: one CIA; `mask` and `latch` are those of its interrupt control register (R186). -/
structure Cia where
  pra : Byte
  prb : Byte
  ddra : Byte
  ddrb : Byte
  timerA : CiaTimer
  timerB : CiaTimer
  mask : BitVec 5
  latch : BitVec 5
  deriving DecidableEq, Repr

/-! ### Hooks, devices, inputs -/

/-- R48: a device register of the $D000 window: one of the 64 of the VIC-II (R172), the 32 of the SID (R178), the 1024
cells of colour RAM, the 16 of each CIA (R184), or an address of the expansion areas, where no device answers. -/
inductive IoRegister where
  | vic (reg : Fin 64)
  | sid (reg : Fin 32)
  | colour (cell : Fin 1024)
  | cia1 (reg : Fin 16)
  | cia2 (reg : Fin 16)
  | expansion
  deriving DecidableEq, Repr

/-- R33, D14: what answers a hooked address, as a named device: the banked BASIC and KERNAL windows and the banked
$D000 window of R48 and R49, one device register of 60_exceptions.md, or the bytes of an external buffer (R34) from
`base` on, by the buffer's number. -/
inductive Device where
  | basicWindow | kernalWindow | ioWindow
  | register (r : IoRegister)
  | buffer (id base : Nat)
  deriving DecidableEq, Repr

/-- R34: one registration, for each address of `start` to `start + length - 1`. -/
structure HookRange where
  start : Nat
  length : Nat
  device : Device
  deriving DecidableEq, Repr

/-- R33: the reader and the writer table, latest registration first. -/
structure Hooks where
  readers : List HookRange
  writers : List HookRange
  deriving DecidableEq, Repr

/-- The state behind the hooks. `freeDraws` is the model's own: how many free values have been drawn. -/
structure Devices where
  vic : Vic
  sid : Sid
  cia1 : Cia
  cia2 : Cia
  colourRam : Mem
  buffers : List (List Byte)
  freeDraws : Nat
  deriving DecidableEq, Repr

/-- R167, R187: what the host drives on the C64: the pressed keys as (column, row), the two joysticks (bit = 1:
switch closed), and the RESTORE key. -/
structure Inputs where
  keys : List (Nat × Nat)
  joystick1 : BitVec 5
  joystick2 : BitVec 5
  restoreKey : Bool
  deriving DecidableEq, Repr

/-! ### The state -/

/-- The machine. `stepCycles` is R10's consumed-cycle count of the CPU step; `lastStep` and `run` are the bookkeeping
that R161 needs. -/
structure State where
  cfg : Config
  a : Byte
  x : Byte
  y : Byte
  sp : Byte
  pc : Word
  p : Status
  nmiLine : Bool
  nmiPending : Bool
  irqLine : Bool
  totalCycles : Nat
  instructionsExecuted : Nat
  stepCycles : Nat
  lastStep : StepKind
  lastResult : ExecResult
  runStatus : RunStatus
  run : RunBase
  lastTrigger : TriggerResult
  ram : Mem
  hooks : Hooks
  dev : Devices
  inputs : Inputs
  deriving DecidableEq, Repr

/-! ### Outcomes -/

/-- Why the machine takes no step. -/
inductive Fault where
  /-- Raised by `step` when the run loop has stopped (R161): it has returned to its caller, and no step is taken until
  the host starts another run. Safe: nothing is claimed of a step that is not taken. -/
  | runStopped (r : StopReason)
  deriving DecidableEq, Repr

/-- Why an instruction has no meaning. -/
inductive Refusal where
  /-- Raised by an arm of `exec` that gives an instruction no meaning; no arm of this model does. Safe. -/
  | notModelled (mnemonic : String)
  deriving DecidableEq, Repr

/-- The outcome of an instruction or a step. -/
abbrev Out := Host.Outcome State Fault Refusal

/-! ### Reset -/

/-- R191: the VIC-II as built. -/
def Vic.reset : Vic where
  rasterLine := 0
  cycleInLine := 0
  frameComplete := false
  regs := []
  compare := 0
  latch := 0
  enable := 0
  frame := { start := [], writes := [] }
  lastFrame := { start := [], writes := [] }

/-- R191: a voice as built: Idle, level 0, every register 0 (so code 0 in every duration, R180). No command has been
produced: kind None (DESIGN CHOICE, log entry 6). -/
def Voice.reset : Voice where
  freq := 0
  pw := 0
  control := 0
  ad := 0
  sr := 0
  phase := .idle
  level := 0
  lastCommand := { kind := .none, freq := 0, pw := 0, gain := 0, attackMs := 2, decayMs := 6, releaseMs := 6 }

/-- R191: the SID as built. -/
def Sid.reset : Sid where
  voice0 := Voice.reset
  voice1 := Voice.reset
  voice2 := Voice.reset
  modeVolume := 0
  cutoffLo := 0
  cutoffHi := 0
  resonance := 0

/-- R191: a timer as built: counter and latch $FFFF, stopped. -/
def CiaTimer.reset : CiaTimer where
  counter := 0xFFFF
  latch := 0xFFFF
  control := 0

/-- R191: a CIA as built. -/
def Cia.reset : Cia where
  pra := 0
  prb := 0
  ddra := 0
  ddrb := 0
  timerA := CiaTimer.reset
  timerB := CiaTimer.reset
  mask := 0
  latch := 0

/-- R191: the devices as built, with no colour RAM contents listed (log entry 3). -/
def Devices.reset : Devices where
  vic := Vic.reset
  sid := Sid.reset
  cia1 := Cia.reset
  cia2 := Cia.reset
  colourRam := []
  buffers := []
  freeDraws := 0

/-- The machine right after reset (R31, R190): the default configuration (R6), and memory with nothing listed, so that
`Read16($FFFC)` is $0000. The values R31 does not state (the input lines, `last_result`, the trigger record, the key
matrix) are those of log entry 6. -/
def State.reset : State where
  cfg := Config.default
  a := 0x00
  x := 0x00
  y := 0x00
  sp := 0xFD
  pc := 0x0000
  p := { n := false, v := false, d := false, i := true, z := false, c := false }
  nmiLine := false
  nmiPending := false
  irqLine := false
  totalCycles := 0
  instructionsExecuted := 0
  stepCycles := 0
  lastStep := .none
  lastResult := { opcode := 0, mode := .implied, operandBytes := [], cycles := 0, unknown := false }
  runStatus := .running
  run := { startCycles := 0, startInstructions := 0 }
  lastTrigger := { triggered := false, reasonType := .other, description := "" }
  ram := []
  hooks := { readers := [], writers := [] }
  dev := Devices.reset
  inputs := { keys := [], joystick1 := 0, joystick2 := 0, restoreKey := false }

end Sys2Proof.Machine
end

