-- ==== Sys2Proof/Machine/Memory.lean ====
section
/-! DEFINITION. Byte storage (R33 `ram`, and the same form for the register banks): read, write, and the canonical form
that makes equal storage equal data. -/

namespace Sys2Proof.Machine

/-- What an unlisted address reads as. R191: contents are an input of the build with no assumed value, so every
storage is some list; only the empty list's reading is fixed here (DESIGN CHOICE, log entry 2). -/
def Mem.blank : Byte := 0x00

/-- The byte at an address. -/
def Mem.read : Mem → Nat → Byte
  | [], _ => Mem.blank
  | (k, v) :: m, a => if k = a then v else Mem.read m a

/-- Put a byte in front, unless it is what an unlisted address reads as. -/
def Mem.cons (a : Nat) (v : Byte) (m : Mem) : Mem := if v = Mem.blank then m else (a, v) :: m

/-- Set the byte at an address, keeping the canonical form. -/
def Mem.write : Mem → Nat → Byte → Mem
  | [], a, v => Mem.cons a v []
  | (k, w) :: m, a, v =>
    if a < k then Mem.cons a v ((k, w) :: m)
    else if k = a then Mem.cons a v m
    else (k, w) :: Mem.write m a v

/-- Addresses from `low` on, rising, below `limit`, and no entry equal to the blank byte. -/
def Mem.wfFrom (limit : Nat) : Nat → Mem → Bool
  | _, [] => true
  | low, (k, v) :: m => decide (low ≤ k) && decide (k < limit) && decide (v ≠ Mem.blank) && Mem.wfFrom limit (k + 1) m

/-- The canonical form of a storage of `limit` addresses. -/
def Mem.wf (limit : Nat) (m : Mem) : Bool := Mem.wfFrom limit 0 m

/-- The storage that any list of (address, byte) pairs describes, a later pair winning; addresses at or past `limit`
are left out. -/
def Mem.ofCells (limit : Nat) (cells : List Host.Cell) : Mem :=
  cells.foldl (fun m c => if c.1 < limit then Mem.write m c.1 c.2 else m) []

/-- R33: "a fixed-size byte array (64KB)". -/
def ramSize : Nat := 65536

end Sys2Proof.Machine
end

