-- ==== Sys2Proof/Machine/Cia.lean ====
section
/-! DEFINITION. The CIAs (60_exceptions.md section 12): timers, interrupt control, ports, keyboard and joysticks. -/

namespace Sys2Proof.Machine

/-! ### Timers (R185) -/

/-- R184: START, bit 0 of CRA or CRB. -/
def timerStarted (t : CiaTimer) : Bool := t.control.getLsbD 0

/-- R184: bit 3 of CRA or CRB: one-shot (1) or continuous (0). -/
def timerOneShot (t : CiaTimer) : Bool := t.control.getLsbD 3

/-- R185: one cycle of a timer, and whether it underflowed. -/
def timerTick (t : CiaTimer) : CiaTimer × Bool :=
  if !timerStarted t then (t, false)
  else if t.counter = 0 then
    ({ t with counter := t.latch, control := if timerOneShot t then t.control &&& 0xFE else t.control }, true)
  else ({ t with counter := t.counter - 1 }, false)

/-- R185: a write of the low byte of the latch. -/
def timerWriteLo (t : CiaTimer) (b : Byte) : CiaTimer := { t with latch := cat (hi t.latch) b }

/-- R185: a write of the high byte of the latch, which loads a stopped counter. -/
def timerWriteHi (t : CiaTimer) (b : Byte) : CiaTimer :=
  let latch := cat b (lo t.latch)
  if timerStarted t then { t with latch := latch } else { t with latch := latch, counter := latch }

/-- R185: a write of CRA or CRB: bit 4 loads the counter and is not stored. -/
def timerWriteControl (t : CiaTimer) (b : Byte) : CiaTimer :=
  { t with control := b &&& 0xEF, counter := if b.getLsbD 4 then t.latch else t.counter }

/-! ### Interrupt control (R186) -/

/-- R186: `irq_out`. -/
def ciaIrqOut (c : Cia) : Bool := decide (c.latch &&& c.mask ≠ 0)

/-- R185: one cycle of a CIA: timer A sets latch bit 0, timer B bit 1. -/
def ciaTick (c : Cia) : Cia :=
  let a := timerTick c.timerA
  let b := timerTick c.timerB
  { c with
    timerA := a.1
    timerB := b.1
    latch := c.latch ||| (if a.2 then 1 else 0) ||| (if b.2 then 2 else 0) }

/-- R164: a CIA advanced by n cycles. -/
def ciaAdvance : Nat → Cia → Cia
  | 0, c => c
  | n + 1, c => ciaAdvance n (ciaTick c)

/-- R186: a write of the interrupt control register: bit 7 sets, or else clears, the mask bits given by bits 4-0. -/
def icrWrite (c : Cia) (b : Byte) : Cia :=
  if bit7 b then { c with mask := c.mask ||| b.setWidth 5 } else { c with mask := c.mask &&& ~~~(b.setWidth 5) }

/-- R186: what a read of the interrupt control register returns. -/
def icrValue (c : Cia) : Byte := c.latch.setWidth 8 ||| (if ciaIrqOut c then 0x80 else 0x00)

/-! ### Ports (R184, R187) -/

/-- R187: a joystick on a port, active low, in bits 4-0. -/
def joystickLow (j : BitVec 5) : Byte := ~~~(j.setWidth 8)

/-- R187: the keyboard rows: bit r is 0 when a column selected by a 0 in PRA has its key of row r pressed. -/
def keyboardRows (keys : List (Nat × Nat)) (pra : Byte) : Byte :=
  byteOf (fun r => !(List.range 8).any (fun c => !pra.getLsbD c && keys.contains (c, r)))

/-! ### Registers (R184) -/

/-- Which of the two CIAs. -/
inductive CiaId where
  | cia1 | cia2
  deriving DecidableEq, Repr

/-- R184: the bits of a register read that are specified; the others are any value. The ports of CIA 2 have no driver
in the spec: their output bits read as written and their input bits any value (log entry 8). -/
def ciaReadMask (id : CiaId) (c : Cia) (reg : Nat) : Byte :=
  if 0x8 ≤ reg ∧ reg ≤ 0xC then 0x00
  else match id with
    | .cia1 => 0xFF
    | .cia2 => if reg = 0 then c.ddra else if reg = 1 then c.ddrb else 0xFF

/-- R184 to R187: what a read of a register returns where it is specified. -/
def ciaReadValue (id : CiaId) (inp : Inputs) (c : Cia) (reg : Nat) : Byte :=
  match reg with
  | 0x0 => match id with
    | .cia1 => c.pra &&& joystickLow inp.joystick2
    | .cia2 => c.pra
  | 0x1 => match id with
    | .cia1 => keyboardRows inp.keys c.pra &&& joystickLow inp.joystick1
    | .cia2 => c.prb
  | 0x2 => c.ddra
  | 0x3 => c.ddrb
  | 0x4 => lo c.timerA.counter
  | 0x5 => hi c.timerA.counter
  | 0x6 => lo c.timerB.counter
  | 0x7 => hi c.timerB.counter
  | 0xD => icrValue c
  | 0xE => c.timerA.control
  | 0xF => c.timerB.control
  | _ => 0x00

/-- R186: what a read of a register changes: reading $D clears the interrupt latch. -/
def ciaAfterRead (c : Cia) (reg : Nat) : Cia := if reg = 0xD then { c with latch := 0 } else c

/-- R184 to R186: a write of a register. -/
def ciaWrite (c : Cia) (reg : Nat) (b : Byte) : Cia :=
  match reg with
  | 0x0 => { c with pra := b }
  | 0x1 => { c with prb := b }
  | 0x2 => { c with ddra := b }
  | 0x3 => { c with ddrb := b }
  | 0x4 => { c with timerA := timerWriteLo c.timerA b }
  | 0x5 => { c with timerA := timerWriteHi c.timerA b }
  | 0x6 => { c with timerB := timerWriteLo c.timerB b }
  | 0x7 => { c with timerB := timerWriteHi c.timerB b }
  | 0xD => icrWrite c b
  | 0xE => { c with timerA := timerWriteControl c.timerA b }
  | 0xF => { c with timerB := timerWriteControl c.timerB b }
  | _ => c

end Sys2Proof.Machine
end

