-- ==== Sys2Proof/Machine/Sid.lean ====
section
/-! DEFINITION. The SID (60_exceptions.md section 11): register writes, the phases of a voice, the envelope ramps and
the AudioCommand of each write. -/

namespace Sys2Proof.Machine

/-! ### Envelope tables (R180) -/

/-- R180: attack code to milliseconds. -/
def attackMsOf (code : Nat) : Nat :=
  [2, 8, 16, 24, 38, 56, 68, 80, 100, 250, 500, 800, 1000, 3000, 5000, 8000].getD code 0

/-- R180: decay or release code to milliseconds. -/
def decayMsOf (code : Nat) : Nat :=
  [6, 24, 48, 72, 114, 168, 204, 240, 300, 750, 1500, 2400, 3000, 9000, 15000, 24000].getD code 0

/-- The high nibble of a byte, as a number. -/
def highNibble (b : Byte) : Nat := b.toNat / 16

/-- The low nibble of a byte, as a number. -/
def lowNibble (b : Byte) : Nat := b.toNat % 16

/-- R178, R180: the attack time of a voice. -/
def voiceAttackMs (v : Voice) : Nat := attackMsOf (highNibble v.ad)

/-- R178, R180: the decay time of a voice. -/
def voiceDecayMs (v : Voice) : Nat := decayMsOf (lowNibble v.ad)

/-- R178, R180: the release time of a voice. -/
def voiceReleaseMs (v : Voice) : Nat := decayMsOf (lowNibble v.sr)

/-- R180: "The sustain level is `sr[v][7:4] / 15`". -/
def sustainLevel (v : Voice) : Rat := (highNibble v.sr : Rat) / 15

/-! ### The envelope (R181) -/

/-- R181: `SID_CLOCK_HZ`, a parameter; a supplied 0 gives R181 no time, and counts as none supplied (DESIGN CHOICE, log
entry 11). -/
def sidClockHz (c : Config) : Nat :=
  match c.sidClockHz with
  | some (hz + 1) => hz + 1
  | some 0 | none => Config.openSidClockHzPred + 1

/-- R181: n cycles in milliseconds. -/
def cyclesToMs (c : Config) (n : Nat) : Rat := (n : Rat) / (sidClockHz c : Rat) * 1000

/-- R179, R181: a voice's envelope moved on by t milliseconds; a phase change carries no remainder. -/
def voiceAdvance (t : Rat) (v : Voice) : Voice :=
  match v.phase with
  | .idle => { v with level := 0 }
  | .attack =>
    let l := v.level + t / (voiceAttackMs v : Rat)
    if 1 ≤ l then { v with level := 1, phase := .decay } else { v with level := l }
  | .decay =>
    let l := v.level - t / (voiceDecayMs v : Rat)
    if l ≤ sustainLevel v then { v with level := sustainLevel v, phase := .sustain } else { v with level := l }
  | .sustain => v
  | .release =>
    let l := v.level - t / (voiceReleaseMs v : Rat)
    if l ≤ 0 then { v with level := 0, phase := .idle } else { v with level := l }

/-- R181: the SID advanced by n cycles. -/
def sidAdvance (c : Config) (n : Nat) (s : Sid) : Sid :=
  let t := cyclesToMs c n
  { s with voice0 := voiceAdvance t s.voice0, voice1 := voiceAdvance t s.voice1, voice2 := voiceAdvance t s.voice2 }

/-! ### Register writes (R178, R179, R182) -/

/-- R182: "The gain is `volume / 15`". -/
def sidGain (modeVolume : Byte) : Rat := (lowNibble modeVolume : Rat) / 15

/-- R182: the command of a kind, with the voice's current values. -/
def commandOf (kind : CommandKind) (modeVolume : Byte) (v : Voice) : AudioCommand :=
  { kind := kind, freq := v.freq, pw := v.pw, gain := sidGain modeVolume,
    attackMs := voiceAttackMs v, decayMs := voiceDecayMs v, releaseMs := voiceReleaseMs v }

/-- The voice with the command of a write recorded. -/
def voiceRecord (kind : CommandKind) (modeVolume : Byte) (v : Voice) : Voice :=
  { v with lastCommand := commandOf kind modeVolume v }

/-- R179: the phases from which clearing the gate starts Release. -/
def gateHeld : Phase → Bool
  | .attack | .decay | .sustain => true
  | .idle | .release => false

/-- R179: what a write of `control` does to the phase and the level, and its command. -/
def controlWrite (v : Voice) (w : Byte) : Voice × CommandKind :=
  if w &&& 0xF0 = 0 then ({ v with phase := .idle, level := 0, control := w }, .stop)
  else if w.getLsbD 0 && !v.control.getLsbD 0 then ({ v with phase := .attack, control := w }, .startADS)
  else if !w.getLsbD 0 && v.control.getLsbD 0 && gateHeld v.phase then
    ({ v with phase := .release, control := w }, .startRelease)
  else ({ v with control := w }, .none)

/-- R178, R179, R182: a write of register +`r` of a voice. -/
def voiceWrite (modeVolume : Byte) (v : Voice) (r : Nat) (b : Byte) : Voice :=
  match r with
  | 0 => voiceRecord .changeFrequency modeVolume { v with freq := cat (hi v.freq) b }
  | 1 => voiceRecord .changeFrequency modeVolume { v with freq := cat b (lo v.freq) }
  | 2 => voiceRecord .changePulseWidth modeVolume { v with pw := v.pw.extractLsb' 8 4 ++ b }
  | 3 => voiceRecord .changePulseWidth modeVolume { v with pw := b.extractLsb' 0 4 ++ v.pw.extractLsb' 0 8 }
  | 4 => let w := controlWrite v b; voiceRecord w.2 modeVolume w.1
  | 5 => voiceRecord .none modeVolume { v with ad := b }
  | 6 => voiceRecord .none modeVolume { v with sr := b }
  | _ => v

/-- A command that concerns no one voice, recorded in each of the three (log entry 9). -/
def sidRecordAll (kind : CommandKind) (s : Sid) : Sid :=
  { s with
    voice0 := voiceRecord kind s.modeVolume s.voice0
    voice1 := voiceRecord kind s.modeVolume s.voice1
    voice2 := voiceRecord kind s.modeVolume s.voice2 }

/-- R178: a write of register 0..31 of the SID. The filter registers and bits 7-4 of $D418 are stored with no effect;
the read-only and unused registers are not reached. -/
def sidWrite (s : Sid) (reg : Nat) (b : Byte) : Sid :=
  if reg < 7 then { s with voice0 := voiceWrite s.modeVolume s.voice0 reg b }
  else if reg < 14 then { s with voice1 := voiceWrite s.modeVolume s.voice1 (reg - 7) b }
  else if reg < 21 then { s with voice2 := voiceWrite s.modeVolume s.voice2 (reg - 14) b }
  else if reg = 0x15 then sidRecordAll .none { s with cutoffLo := b }
  else if reg = 0x16 then sidRecordAll .none { s with cutoffHi := b }
  else if reg = 0x17 then sidRecordAll .none { s with resonance := b }
  else if reg = 0x18 then sidRecordAll .changeVolume { s with modeVolume := b }
  else s

end Sys2Proof.Machine
end

