-- ==== Sys2Proof/Machine/Vic.lean ====
section
/-! DEFINITION. The VIC-II (60_exceptions.md section 10): timing constants, the raster state machine, the raster
interrupt, register reads and writes, the issuing raster line of a write, and the badline parameter. -/

namespace Sys2Proof.Machine

/-! ### Timing (R169) -/

/-- R169: the constants of each variant; those of NTSC_old are a parameter. -/
def timingOf (c : Config) : VicModel → Timing
  | .pal => { cyclesPerLine := 63, lines := 312 }
  | .ntsc => { cyclesPerLine := 64, lines := 262 }
  | .ntscOld =>
    c.ntscOldTiming.getD
      { cyclesPerLine := Config.openNtscOldCyclesPerLinePred + 1, lines := Config.openNtscOldLinesPred + 1 }

/-- R169: `CyclesPerFrame = CyclesPerLine × Lines`. -/
def cyclesPerFrame (t : Timing) : Nat := t.cyclesPerLine * t.lines

/-- R6: the figure supplied for a variant. -/
def suppliedFor (f : PerVicModel) : VicModel → Option Nat
  | .ntsc => f.ntsc
  | .ntscOld => f.ntscOld
  | .pal => f.pal

/-- R169, R6: the visible-area constants of a variant, each a parameter of its own. -/
def visibleAreaOf (c : Config) (m : VicModel) : VisibleArea :=
  { linesVisible := (suppliedFor c.linesVisible m).getD (Config.openLinesVisible m)
    pixelsPerLine := (suppliedFor c.pixelsPerLine m).getD (Config.openPixelsPerLine m)
    pixelsPerLineVisible := (suppliedFor c.pixelsPerLineVisible m).getD (Config.openPixelsPerLineVisible m) }

/-- R169: "derived HBlank pixels = PixelsPerLine − PixelsPerLineVisible". -/
def hBlankPixels (v : VisibleArea) : Int := (v.pixelsPerLine : Int) - v.pixelsPerLineVisible

/-- R169: "derived VBlank lines = Lines − LinesVisible". -/
def vBlankLines (t : Timing) (v : VisibleArea) : Int := (t.lines : Int) - v.linesVisible

/-! ### The raster state machine (R170, R174) -/

/-- R174: `vic_irq_out`. -/
def vicIrqOut (v : Vic) : Bool := decide (v.latch &&& v.enable ≠ 0)

/-- The frame wraps: `frame_complete` is set, and the register log of the finished frame is kept for the host (R176). -/
def vicWrapFrame (v : Vic) : Vic :=
  { v with frameComplete := true, lastFrame := v.frame, frame := { start := v.regs, writes := [] } }

/-- R170, R174: the next raster line is entered; the raster latch is set when it is the compare line. -/
def vicEnterLine (t : Timing) (v : Vic) : Vic :=
  let w := if v.rasterLine + 1 = t.lines then { vicWrapFrame v with rasterLine := 0 }
    else { v with rasterLine := v.rasterLine + 1 }
  { w with
    cycleInLine := 0
    latch := if w.rasterLine = w.compare.toNat then w.latch ||| 1 else w.latch }

/-- R170: one cycle. -/
def vicTick (t : Timing) (v : Vic) : Vic :=
  if v.cycleInLine + 1 = t.cyclesPerLine then vicEnterLine t v else { v with cycleInLine := v.cycleInLine + 1 }

/-- R170: n cycles. -/
def vicTicks (t : Timing) : Nat → Vic → Vic
  | 0, v => v
  | n + 1, v => vicTicks t n (vicTick t v)

/-- R170: advancing the VIC-II by n cycles: `frame_complete` is cleared first. -/
def vicAdvance (t : Timing) (n : Nat) (v : Vic) : Vic := vicTicks t n { v with frameComplete := false }

/-! ### Registers (R172 to R174) -/

/-- R172: the bits of a register that a read returns as last written. Bits the rule calls unused or "any value", and
bits it does not name, are the zeros of the mask (log entry 8). -/
def vicReadMask (reg : Nat) : Byte :=
  if reg = 0x13 ∨ reg = 0x14 then 0x00              -- light pen: any value
  else if reg = 0x16 then 0x1F                      -- control 2: MCM, CSEL, XSCROLL
  else if reg = 0x18 then 0xFE                      -- memory pointers: bits 7-1
  else if reg = 0x1A then 0x0F                      -- interrupt enable: bits 3-0
  else if reg = 0x1E ∨ reg = 0x1F then 0x00         -- collisions: any value (D24)
  else if 0x20 ≤ reg ∧ reg ≤ 0x2E then 0x0F         -- colours: bits 3-0
  else 0xFF

/-- R172 to R174: what a read of a register returns where it is specified (`vicReadMask`). -/
def vicReadValue (v : Vic) (reg : Nat) : Byte :=
  let line : BitVec 9 := BitVec.ofNat 9 v.rasterLine
  if reg = 0x11 then (if line.getLsbD 8 then 0x80 else 0x00) ||| (v.regs.read reg &&& 0x7F)
  else if reg = 0x12 then line.setWidth 8
  else if reg = 0x19 then v.latch.setWidth 8 ||| (if vicIrqOut v then 0x80 else 0x00) ||| 0x70
  else if reg = 0x1A then v.enable.setWidth 8
  else if 0x2F ≤ reg then 0xFF
  else v.regs.read reg

/-- R172: the registers a write does not reach: the read-only ones and the unused ones. -/
def vicWriteIgnored (reg : Nat) : Bool :=
  decide (reg = 0x13 ∨ reg = 0x14 ∨ reg = 0x1E ∨ reg = 0x1F ∨ 0x2F ≤ reg)

/-- R174: the compare value after a write: $D012 gives bits 7-0, bit 7 of $D011 gives bit 8. -/
def vicCompareAfter (v : Vic) (reg : Nat) (b : Byte) : BitVec 9 :=
  if reg = 0x12 then (v.compare &&& 0x100#9) ||| b.setWidth 9
  else if reg = 0x11 then (v.compare &&& 0x0FF#9) ||| (if bit7 b then 0x100#9 else 0)
  else v.compare

/-- R172, R174, R175: a write of a register. Writing $D019 clears the latch bits written as 1; the compare value moves
without setting the latch (D24); every stored write is logged with its raster line. -/
def vicWrite (v : Vic) (reg : Nat) (b : Byte) : Vic :=
  if vicWriteIgnored reg then v
  else if reg = 0x19 then { v with latch := v.latch &&& ~~~(b.setWidth 4) }
  else
    { v with
      regs := v.regs.write reg b
      compare := vicCompareAfter v reg b
      enable := if reg = 0x1A then b.setWidth 4 else v.enable
      frame := { v.frame with writes := v.frame.writes ++ [{ line := v.rasterLine, reg := reg, value := b }] } }

/-! ### Views the host reads (R168, R172, R175, R176) -/

/-- R175: the value of a register that the video output sees on a raster line of a frame: the last write whose issuing
line is not later, or the value the frame began with. -/
def frameRegOnLine (f : FrameLog) (reg line : Nat) : Byte :=
  match (f.writes.filter (fun w => w.reg == reg && decide (w.line ≤ line))).getLast? with
  | some w => w.value
  | none => f.start.read reg

/-- R172: the video mode latches (ECM, BMM, MCM). -/
def videoMode (v : Vic) : Bool × Bool × Bool :=
  ((v.regs.read 0x11).getLsbD 6, (v.regs.read 0x11).getLsbD 5, (v.regs.read 0x16).getLsbD 4)

/-- R168: a sprite descriptor. DESIGN CHOICE: it leaves out the pointer that the document names, for which R172 gives no
register (log entry 31). -/
structure Sprite where
  x : Nat
  y : Byte
  colour : Byte
  multicolour : Bool
  enabled : Bool
  deriving DecidableEq, Repr

/-- R172: sprite n of 0..7. -/
def spriteOf (v : Vic) (n : Nat) : Sprite :=
  { x := (if (v.regs.read 0x10).getLsbD n then 256 else 0) + (v.regs.read (2 * n)).toNat
    y := v.regs.read (2 * n + 1)
    colour := v.regs.read (0x27 + n) &&& 0x0F
    multicolour := (v.regs.read 0x1C).getLsbD n
    enabled := (v.regs.read 0x15).getLsbD n }

/-! ### Badlines (R171, D17) -/

/-- The value of a function of the raster line and the VIC-II state. -/
def vicFnValue (line : Nat) (v : Vic) : VicFn → Nat
  | .number n => n
  | .line => line
  | .cycleInLine => v.cycleInLine
  | .frameComplete => if v.frameComplete then 1 else 0
  | .register reg => (v.regs.read reg).toNat
  | .shown reg l => (frameRegOnLine v.frame reg l).toNat
  | .compare => v.compare.toNat
  | .latch => v.latch.toNat
  | .enable => v.enable.toNat
  | .add f g => vicFnValue line v f + vicFnValue line v g
  | .sub f g => vicFnValue line v f - vicFnValue line v g
  | .mul f g => vicFnValue line v f * vicFnValue line v g
  | .div f g => vicFnValue line v f / vicFnValue line v g
  | .mod f g => vicFnValue line v f % vicFnValue line v g
  | .bitAnd f g => vicFnValue line v f &&& vicFnValue line v g
  | .equal f g => if vicFnValue line v f = vicFnValue line v g then 1 else 0
  | .less f g => if vicFnValue line v f < vicFnValue line v g then 1 else 0
  | .choose c f g => if vicFnValue line v c = 0 then vicFnValue line v g else vicFnValue line v f
  | .external id => Config.externalVicFn id line v

/-- `BADLINE_STOLEN_CYCLES` of a line just entered: a function of the line and the VIC-II state (R6, R171). -/
def stolenOnLine (c : Config) (v : Vic) : Nat :=
  match c.badlineStolenCycles with
  | none => Config.openBadlineStolenCycles v.rasterLine v
  | some f => vicFnValue v.rasterLine v f

/-- The VIC-II after n cycles, and the cycles stolen on the lines entered in them. -/
def stolenOver (c : Config) (t : Timing) : Nat → Vic → Vic × Nat
  | 0, v => (v, 0)
  | n + 1, v =>
    let w := vicTick t v
    let s := if v.cycleInLine + 1 = t.cyclesPerLine then stolenOnLine c w else 0
    let r := stolenOver c t n w
    (r.1, s + r.2)

/-- R164, D17: the cycles stolen in an advance of n: those of the lines entered in the n cycles, then those of the
lines entered in the stolen cycles themselves, and so on, for at most `fuel` rounds (log entry 10). -/
def stolenCycles (c : Config) (t : Timing) : Nat → Nat → Vic → Nat
  | 0, _, _ => 0
  | fuel + 1, n, v =>
    let r := stolenOver c t n v
    if r.2 = 0 then 0 else r.2 + stolenCycles c t fuel r.2 r.1

end Sys2Proof.Machine
end

