-- ==== Sys2Proof/Machine/Bus.lean ====
section
/-! DEFINITION. Memory accesses: the hook tables (R33 to R37), C64 bank selection (R49), the $D000 window's devices
(R48), and the two accesses of the CPU, `memRead` and `memWrite` (R36, R37, R43). No access faults (R38). -/

namespace Sys2Proof.Machine

/-! ### Updates of one part of the state -/

/-- The state with other RAM. -/
def State.withRam (s : State) (m : Mem) : State := { s with ram := m }

/-- The state with other device state. -/
def State.withDev (s : State) (d : Devices) : State := { s with dev := d }

/-! ### Hook tables (R33, R34) -/

/-- The hook that answers an address, with the address's offset in its registration: the latest registration that
covers it. -/
def hookAt : List HookRange → Nat → Option (Device × Nat)
  | [], _ => none
  | h :: t, a => if h.start ≤ a ∧ a < h.start + h.length then some (h.device, a - h.start) else hookAt t a

/-! ### Bank selection (R49) -/

/-- R49: the three bits of the banking configuration. -/
structure Bank where
  loram : Bool
  hiram : Bool
  charen : Bool
  deriving DecidableEq, Repr

/-- R49: `cfg`, from the two port cells. -/
def bankBits (ram : Mem) : Byte :=
  ((ram.read 1 &&& ram.read 0) ||| (~~~(ram.read 0) &&& 0x07)) &&& 0x07

/-- R49: LORAM, HIRAM and CHAREN. -/
def bankOf (ram : Mem) : Bank :=
  { loram := (bankBits ram).getLsbD 0, hiram := (bankBits ram).getLsbD 1, charen := (bankBits ram).getLsbD 2 }

/-- R49: what the $D000 window reads. -/
inductive IoView where
  | ram | io | chargen
  deriving DecidableEq, Repr

/-- R49: what the $D000 window reads in a bank configuration. -/
def ioViewOf (b : Bank) : IoView :=
  if !b.loram && !b.hiram then .ram else if b.charen then .io else .chargen

/-! ### Free values -/

/-- Draw a byte of any value. -/
def drawByte (d : Devices) : Byte × Devices :=
  (Config.freeByte d.freeDraws, { d with freeDraws := d.freeDraws + 1 })

/-- A read whose specified bits are those of `mask`: the other bits are any value. -/
def maskedRead (d : Devices) (mask value : Byte) : Byte × Devices :=
  if mask = 0xFF then (value, d)
  else
    let r := drawByte d
    ((value &&& mask) ||| (r.1 &&& ~~~mask), r.2)

/-! ### The I/O devices of the $D000 window (R48) -/

/-- R48: the device register that an address $D000 to $DFFF reaches: the VIC-II's repeat every $40, the SID's every $20
and a CIA's every $10. -/
def ioRegister (a : Nat) : IoRegister :=
  if a < 0xD400 then .vic ⟨a % 0x40, Nat.mod_lt _ (by decide)⟩
  else if a < 0xD800 then .sid ⟨a % 0x20, Nat.mod_lt _ (by decide)⟩
  else if a < 0xDC00 then .colour ⟨a % 0x400, Nat.mod_lt _ (by decide)⟩
  else if a < 0xDD00 then .cia1 ⟨a % 0x10, Nat.mod_lt _ (by decide)⟩
  else if a < 0xDE00 then .cia2 ⟨a % 0x10, Nat.mod_lt _ (by decide)⟩
  else .expansion

/-- A read of a device register: the byte, and the device state after it. -/
def registerRead (inp : Inputs) (d : Devices) : IoRegister → Byte × Devices
  | .vic r => maskedRead d (vicReadMask r) (vicReadValue d.vic r)
  | .sid _ => drawByte d
  | .colour k => maskedRead d 0x0F (d.colourRam.read k)
  | .cia1 r =>
    maskedRead { d with cia1 := ciaAfterRead d.cia1 r } (ciaReadMask .cia1 d.cia1 r) (ciaReadValue .cia1 inp d.cia1 r)
  | .cia2 r =>
    maskedRead { d with cia2 := ciaAfterRead d.cia2 r } (ciaReadMask .cia2 d.cia2 r) (ciaReadValue .cia2 inp d.cia2 r)
  | .expansion => drawByte d

/-- A write of a device register; the expansion areas ignore it. -/
def registerWrite (d : Devices) (r : IoRegister) (b : Byte) : Devices :=
  match r with
  | .vic r => { d with vic := vicWrite d.vic r b }
  | .sid r => { d with sid := sidWrite d.sid r b }
  | .colour k => { d with colourRam := d.colourRam.write k (b &&& 0x0F) }
  | .cia1 r => { d with cia1 := ciaWrite d.cia1 r b }
  | .cia2 r => { d with cia2 := ciaWrite d.cia2 r b }
  | .expansion => d

/-- R34: a read of an external buffer. -/
def bufferRead (bufs : List (List Byte)) (id off : Nat) : Byte := (bufs.getD id []).getD off 0

/-- R34: a write of an external buffer. -/
def bufferWrite (bufs : List (List Byte)) (id off : Nat) (b : Byte) : List (List Byte) :=
  bufs.set id ((bufs.getD id []).set off b)

/-- A reader hook (R33, D14): the byte it returns, and the device state after it. `a` is the address and `off` its
offset in the registration. -/
def hookRead (s : State) (h : Device) (off a : Nat) : Byte × Devices :=
  match h with
  | .basicWindow =>
    if (bankOf s.ram).loram && (bankOf s.ram).hiram then (s.cfg.roms.basic.getD off 0, s.dev) else (s.ram.read a, s.dev)
  | .kernalWindow =>
    if (bankOf s.ram).hiram then (s.cfg.roms.kernal.getD off 0, s.dev) else (s.ram.read a, s.dev)
  | .ioWindow =>
    match ioViewOf (bankOf s.ram) with
    | .ram => (s.ram.read a, s.dev)
    | .io => registerRead s.inputs s.dev (ioRegister a)
    | .chargen => (s.cfg.roms.chargen.getD off 0, s.dev)
  | .register r => registerRead s.inputs s.dev r
  | .buffer id base => (bufferRead s.dev.buffers id (base + off), s.dev)

/-- A writer hook (R33, R49): RAM and device state after it. A write to an address that reads ROM writes the RAM
underneath, and so does one to the $D000 window while I/O is not selected. -/
def hookWrite (s : State) (h : Device) (off a : Nat) (b : Byte) : Mem × Devices :=
  match h with
  | .basicWindow | .kernalWindow => (s.ram.write a b, s.dev)
  | .ioWindow =>
    match ioViewOf (bankOf s.ram) with
    | .io => (s.ram, registerWrite s.dev (ioRegister a) b)
    | .ram | .chargen => (s.ram.write a b, s.dev)
  | .register r => (s.ram, registerWrite s.dev r b)
  | .buffer id base => (s.ram, { s.dev with buffers := bufferWrite s.dev.buffers id (base + off) b })

/-! ### The two accesses of the CPU (R36, R37) -/

/-- R36: the byte a read of `a` returns, and the device state after it. -/
def State.busRead (s : State) (a : Word) : Byte × Devices :=
  match hookAt s.hooks.readers a.toNat with
  | none => (s.ram.read a.toNat, s.dev)
  | some (h, off) => hookRead s h off a.toNat

/-- R37: RAM and the device state after a write of `b` at `a`. -/
def State.busWrite (s : State) (a : Word) (b : Byte) : Mem × Devices :=
  match hookAt s.hooks.writers a.toNat with
  | none => (s.ram.write a.toNat b, s.dev)
  | some (h, off) => hookWrite s h off a.toNat b

/-- R36: `MemRead(a, 1)`. -/
def State.memRead (s : State) (a : Word) : Byte × State := ((s.busRead a).1, s.withDev (s.busRead a).2)

/-- R37: `MemWrite(a, 1, b)`. -/
def State.memWrite (s : State) (a : Word) (b : Byte) : State :=
  (s.withRam (s.busWrite a b).1).withDev (s.busWrite a b).2

/-- The byte of RAM at an address, past any hook: what a frame statement reads. -/
def State.ramByte (s : State) (a : Word) : Byte := s.ram.read a.toNat

end Sys2Proof.Machine
end

