-- ==== Sys2Proof/Machine/Ops.lean ====
section
/-! DEFINITION. The named operations over registers and memory that the instructions share: register updates, the
status byte and its images (R16 to R18), fetch and 16-bit reads (R9), the stack (R40), taking an exception (R137, R154),
the return from one (R127), and the record an instruction leaves (R29, R84). -/

namespace Sys2Proof.Machine

/-! ### Register updates (R8) -/

/-- `A <- v`. -/
def State.setA (s : State) (v : Byte) : State := { s with a := v }

/-- `X <- v`. -/
def State.setX (s : State) (v : Byte) : State := { s with x := v }

/-- `Y <- v`. -/
def State.setY (s : State) (v : Byte) : State := { s with y := v }

/-- `SP <- v`. -/
def State.setSp (s : State) (v : Byte) : State := { s with sp := v }

/-- `PC <- v`. -/
def State.setPc (s : State) (v : Word) : State := { s with pc := v }

/-- The flags of P. -/
def State.setP (s : State) (v : Status) : State := { s with p := v }

/-! ### The status byte (R16 to R18) -/

/-- A flag as a bit of the status byte. -/
def flagBit (f : Bool) (k : Nat) : Byte := if f then 1#8 <<< k else 0

/-- R16: P as a byte: `N<<7 | V<<6 | 1<<5 | 0<<4 | D<<3 | I<<2 | Z<<1 | C`. -/
def Status.toByte (p : Status) : Byte :=
  flagBit p.n 7 ||| flagBit p.v 6 ||| 0x20 ||| flagBit p.d 3 ||| flagBit p.i 2 ||| flagBit p.z 1 ||| flagBit p.c 0

/-- R18: `PushImageSW(P) = P | $30`, pushed by PHP and BRK. -/
def pushImageSW (p : Status) : Byte := p.toByte ||| 0x30

/-- R18: `PushImageHW(P) = (P | $20) & ~$10`, pushed by IRQ and NMI entry. -/
def pushImageHW (p : Status) : Byte := (p.toByte ||| 0x20) &&& ~~~0x10

/-- R17: the flags PLP and RTI take from a pulled byte; its bits 5 and 4 are ignored. -/
def statusOfByte (b : Byte) : Status :=
  { n := b.getLsbD 7, v := b.getLsbD 6, d := b.getLsbD 3, i := b.getLsbD 2, z := b.getLsbD 1, c := b.getLsbD 0 }

/-! ### Fetch and 16-bit reads (R9) -/

/-- R9: `Fetch()`: read the byte at PC, then add 1 to PC modulo 65536. -/
def State.fetch (s : State) : Byte × State :=
  let r := s.memRead s.pc
  (r.1, r.2.setPc (s.pc + 1))

/-- R9: `Read16(a)`: the low byte at a is read first, then the high byte at a + 1. -/
def State.read16 (s : State) (a : Word) : Word × State :=
  let l := s.memRead a
  let h := l.2.memRead (a + 1)
  (cat h.1 l.1, h.2)

/-! ### The stack (R40) -/

/-- R14: the address of the stack byte that SP selects, `$0100 + SP`. -/
def stackAddr (sp : Byte) : Word := 0x0100 + zext16 sp

/-- R40: `Push(v)`. -/
def State.push (s : State) (v : Byte) : State := (s.memWrite (stackAddr s.sp) v).setSp (s.sp - 1)

/-- R40: `Pull()`. -/
def State.pull (s : State) : Byte × State := (s.setSp (s.sp + 1)).memRead (stackAddr (s.sp + 1))

/-- R41: a return address is pushed high byte first. -/
def State.pushWord (s : State) (w : Word) : State := (s.push (hi w)).push (lo w)

/-- R126, R127: a return address is pulled low byte first. -/
def State.pullWord (s : State) : Word × State :=
  let l := s.pull
  let h := l.2.pull
  (cat h.1 l.1, h.2)

/-! ### Exceptions -/

/-- R137, R154: entry, shared by BRK, IRQ and NMI: the return address and the status image are pushed, I is set (D is
not changed, D9), and PC is loaded from the vector. -/
def State.takeException (s : State) (ret : Word) (image : Byte) (vector : Word) : State :=
  let t := (s.pushWord ret).push image
  let v := (t.setP { t.p with i := true }).read16 vector
  v.2.setPc v.1

/-- R127: the return: the flags, then PC, are pulled. -/
def State.returnFromException (s : State) : State :=
  let f := s.pull
  let w := (f.2.setP (statusOfByte f.1)).pullWord
  w.2.setPc w.1

/-- R46: the NMI vector. -/
def nmiVector : Word := 0xFFFA

/-- R46: the RESET vector. -/
def resetVector : Word := 0xFFFC

/-- R46: the IRQ and BRK vector. -/
def irqVector : Word := 0xFFFE

/-! ### The record of an instruction (R29, R84) -/

/-- The `last_result` of an instruction that completed in `cycles` cycles. -/
def resultOf (i : Instr) (cycles : Nat) : ExecResult :=
  { opcode := i.opcode, mode := i.mode, operandBytes := i.operandBytes, cycles := cycles, unknown := false }

/-- R84: an instruction completes: its base cycles and the penalty are its consumed cycles, it is recorded, and it
counts as an instruction. -/
def State.retire (s : State) (i : Instr) (penalty : Nat) : State :=
  { s with
    stepCycles := i.baseCycles + penalty
    instructionsExecuted := s.instructionsExecuted + 1
    lastStep := .instruction
    lastResult := resultOf i (i.baseCycles + penalty) }

/-- R83: the page-crossing penalty of an instruction. -/
def crossPenalty (i : Instr) (crossed : Bool) : Nat := if i.pagePenalty && crossed then 1 else 0

end Sys2Proof.Machine
end

