-- ==== Sys2Proof/Machine/Flags.lean ====
section
/-! DEFINITION. The results and flags of the arithmetic and shift instructions (43_arithmetic.md, 44_logic_shift.md, R85),
as functions of the operands and the old flags: computed exactly on numbers, then narrowed. -/

namespace Sys2Proof.Machine

/-- R85: `SetNZ(v)`. -/
def setNZ (p : Status) (v : Byte) : Status := { p with n := bit7 v, z := v == 0 }

/-- A carry as a number. -/
def carryNat (c : Bool) : Nat := if c then 1 else 0

/-! ### ADC (R103) -/

/-- R103, binary mode. -/
def adcBinary (a m : Byte) (p : Status) : Byte × Status :=
  let t := a.toNat + m.toNat + carryNat p.c
  let r := BitVec.ofNat 8 t
  (r, setNZ { p with c := decide (255 < t), v := bit7 ((a ^^^ r) &&& (m ^^^ r)) } r)

/-- R103, decimal mode: `al`, the adjusted low digit with its carry. -/
def adcLowDigit (a m : Byte) (c : Bool) : Nat :=
  let al := a.toNat % 16 + m.toNat % 16 + carryNat c
  if 10 ≤ al then (al + 6) % 16 + 16 else al

/-- R103, decimal mode. -/
def adcDecimal (a m : Byte) (p : Status) : Byte × Status :=
  let bin := BitVec.ofNat 8 (a.toNat + m.toNat + carryNat p.c)
  let al := adcLowDigit a m p.c
  let s : Int := (a &&& 0xF0).toInt + (m &&& 0xF0).toInt + al
  let t := (a &&& 0xF0).toNat + (m &&& 0xF0).toNat + al
  let t' := if 0xA0 ≤ t then t + 0x60 else t
  (BitVec.ofNat 8 t',
    { p with
      c := decide (0x100 ≤ t')
      z := bin == 0
      n := bit7 (BitVec.ofInt 8 s)
      v := decide (s < -128 ∨ 127 < s) })

/-- R103: ADC, in the mode that P.D selects. -/
def adc (a m : Byte) (p : Status) : Byte × Status := if p.d then adcDecimal a m p else adcBinary a m p

/-! ### SBC (R104) -/

/-- R104: the binary part, which gives the flags in both modes. -/
def sbcBinary (a m : Byte) (p : Status) : Byte × Status :=
  let t := a.toNat + (m ^^^ 0xFF).toNat + carryNat p.c
  let r := BitVec.ofNat 8 t
  (r, setNZ { p with c := decide (255 < t), v := bit7 ((a ^^^ m) &&& (a ^^^ r)) } r)

/-- R104: the decimal result. `% 16` on a negative number is its two's-complement low digit (R102). -/
def sbcDecimalResult (a m : Byte) (c : Bool) : Byte :=
  let al : Int := (a.toNat % 16 : Int) - (m.toNat % 16 : Int) + carryNat c - 1
  let al' : Int := if al < 0 then (al - 6) % 16 - 16 else al
  let t : Int := ((a &&& 0xF0).toNat : Int) - (m &&& 0xF0).toNat + al'
  BitVec.ofInt 8 (if t < 0 then t - 0x60 else t)

/-- R104: SBC, in the mode that P.D selects. -/
def sbc (a m : Byte) (p : Status) : Byte × Status :=
  let b := sbcBinary a m p
  (if p.d then sbcDecimalResult a m p.c else b.1, b.2)

/-! ### Compare and BIT (R105, R118) -/

/-- R105: the flags of `Compare(r, M)`. -/
def compareFlags (r m : Byte) (p : Status) : Status := setNZ { p with c := decide (m.toNat ≤ r.toNat) } (r - m)

/-- R118: the flags of BIT. -/
def bitFlags (a m : Byte) (p : Status) : Status :=
  { p with z := (a &&& m) == 0, n := m.getLsbD 7, v := m.getLsbD 6 }

/-! ### Shifts (R120 to R123) -/

/-- R120: ASL. -/
def aslOp (v : Byte) (p : Status) : Byte × Status :=
  let r := BitVec.ofNat 8 (v.toNat * 2)
  (r, setNZ { p with c := bit7 v } r)

/-- R121: LSR. -/
def lsrOp (v : Byte) (p : Status) : Byte × Status :=
  let r := BitVec.ofNat 8 (v.toNat / 2)
  (r, setNZ { p with c := v.getLsbD 0 } r)

/-- R122: ROL. -/
def rolOp (v : Byte) (p : Status) : Byte × Status :=
  let r := BitVec.ofNat 8 (v.toNat * 2 + carryNat p.c)
  (r, setNZ { p with c := bit7 v } r)

/-- R123: ROR. -/
def rorOp (v : Byte) (p : Status) : Byte × Status :=
  let r := BitVec.ofNat 8 (v.toNat / 2 + carryNat p.c * 0x80)
  (r, setNZ { p with c := v.getLsbD 0 } r)

end Sys2Proof.Machine
end

