-- ==== Sys2Proof/Machine/Operands.lean ====
section
/-! DEFINITION. The addressing modes (40_addressing.md): effective addresses with their wraps and pointer reads, the
operand of a read instruction, jump targets and branch targets. Every instruction's operand bytes are already fetched:
PC is the address of the next instruction. -/

namespace Sys2Proof.Machine

/-- An effective address: the address, whether indexing crossed a page (R77, R78, R81), and the state after the
pointer reads. -/
structure Access where
  addr : Word
  crossed : Bool
  st : State
  deriving DecidableEq, Repr

/-- R77: indexing a base modulo 65536; crossed when the high byte changes. -/
def indexed (base : Word) (index : Byte) (s : State) : Access :=
  { addr := base + zext16 index, crossed := hi base != hi (base + zext16 index), st := s }

/-- R80, R81: a pointer in page 0: the low byte at z, the high byte at (z + 1) mod 256. -/
def zeroPagePointer (s : State) (z : Byte) : Word × State :=
  let l := s.memRead (zext16 z)
  let h := l.2.memRead (zext16 (z + 1))
  (cat h.1 l.1, h.2)

/-- The effective address of a memory operand (R73 to R78, R80, R81). -/
def effAddr (s : State) : MemOperand → Access
  | .zeroPage b => { addr := zext16 b, crossed := false, st := s }
  | .zeroPageX b => { addr := zext16 (b + s.x), crossed := false, st := s }
  | .zeroPageY b => { addr := zext16 (b + s.y), crossed := false, st := s }
  | .absolute w => { addr := w, crossed := false, st := s }
  | .absoluteX w => indexed w s.x s
  | .absoluteY w => indexed w s.y s
  | .indirectX b =>
    let q := zeroPagePointer s (b + s.x)
    { addr := q.1, crossed := false, st := q.2 }
  | .indirectY b =>
    let q := zeroPagePointer s b
    indexed q.1 s.y q.2

/-- The operand byte M of a read instruction (R69), whether a page was crossed, and the state after the reads. -/
structure Operand where
  val : Byte
  crossed : Bool
  st : State
  deriving DecidableEq, Repr

/-- R69, R72: M is the immediate byte, or the one byte read at the effective address. -/
def readOperand (s : State) : ReadOperand → Operand
  | .immediate b => { val := b, crossed := false, st := s }
  | .memory m =>
    let e := effAddr s m
    let r := e.st.memRead e.addr
    { val := r.1, crossed := e.crossed, st := r.2 }

/-- R76, R79: the target of JMP. The high byte of an indirect target is read from the pointer's own page (D7). -/
def jumpTarget (s : State) : JumpOperand → Word × State
  | .absolute w => (w, s)
  | .indirect w =>
    let l := s.memRead w
    let h := l.2.memRead (cat (hi w) (lo w + 1))
    (cat h.1 l.1, h.2)

/-- R82: the target of a branch, from the address of the next instruction. -/
def branchTarget (next : Word) (off : Byte) : Word := next + sext16 off

end Sys2Proof.Machine
end

