-- ==== Sys2Proof/Machine/LoadStore.lean ====
section
/-! DEFINITION. Loads, stores and transfers (41_load_store_transfer.md). -/

namespace Sys2Proof.Machine

/-- A register takes the operand byte, and N and Z follow it: what LDA, LDX and LDY share (R86 to R88). -/
def loadWith (i : Instr) (o : ReadOperand) (set : State → Byte → State) (s : State) : Out :=
  let r := readOperand s o
  .next (((set r.st r.val).setP (setNZ s.p r.val)).retire i (crossPenalty i r.crossed))

/-- A register is written to the effective address: what STA, STX and STY share (R89 to R91). -/
def storeWith (i : Instr) (m : MemOperand) (v : Byte) (s : State) : Out :=
  let e := effAddr s m
  .next ((e.st.memWrite e.addr v).retire i 0)

/-- A register takes a value, and N and Z follow it: what the transfers, INX, INY, DEX and DEY share. -/
def moveWith (i : Instr) (v : Byte) (set : State → Byte → State) (s : State) : Out :=
  .next (((set s v).setP (setNZ s.p v)).retire i 0)

/-- R86: LDA. -/
def execLda (o : ReadOperand) (s : State) : Out := loadWith (.lda o) o State.setA s

/-- R87: LDX. -/
def execLdx (o : ReadOperand) (s : State) : Out := loadWith (.ldx o) o State.setX s

/-- R88: LDY. -/
def execLdy (o : ReadOperand) (s : State) : Out := loadWith (.ldy o) o State.setY s

/-- R89: STA. -/
def execSta (m : MemOperand) (s : State) : Out := storeWith (.sta m) m s.a s

/-- R90: STX. -/
def execStx (m : MemOperand) (s : State) : Out := storeWith (.stx m) m s.x s

/-- R91: STY. -/
def execSty (m : MemOperand) (s : State) : Out := storeWith (.sty m) m s.y s

/-- R92: TAX. -/
def execTax (s : State) : Out := moveWith .tax s.a State.setX s

/-- R93: TAY. -/
def execTay (s : State) : Out := moveWith .tay s.a State.setY s

/-- R94: TXA. -/
def execTxa (s : State) : Out := moveWith .txa s.x State.setA s

/-- R95: TYA. -/
def execTya (s : State) : Out := moveWith .tya s.y State.setA s

/-- R96: TSX. -/
def execTsx (s : State) : Out := moveWith .tsx s.sp State.setX s

/-- R97: TXS, the transfer that leaves N and Z unchanged. -/
def execTxs (s : State) : Out := .next ((s.setSp s.x).retire .txs 0)

end Sys2Proof.Machine
end

