-- ==== Sys2Proof/Machine/Arithmetic.lean ====
section
/-! DEFINITION. Arithmetic, compare, increment and decrement (43_arithmetic.md). -/

namespace Sys2Proof.Machine

/-- A takes the result of an operation on A, M and the flags: what ADC, SBC, AND, ORA and EOR share. -/
def accumulateWith (i : Instr) (o : ReadOperand) (op : Byte → Byte → Status → Byte × Status) (s : State) : Out :=
  let r := readOperand s o
  let q := op s.a r.val s.p
  .next (((r.st.setA q.1).setP q.2).retire i (crossPenalty i r.crossed))

/-- The flags follow a register and M: what CMP, CPX, CPY and BIT share. -/
def testWith (i : Instr) (o : ReadOperand) (op : Byte → Status → Status) (s : State) : Out :=
  let r := readOperand s o
  .next ((r.st.setP (op r.val s.p)).retire i (crossPenalty i r.crossed))

/-- A byte of memory is read once and written back once: what the read-modify-write instructions share (R69, R119). -/
def modifyWith (i : Instr) (m : MemOperand) (op : Byte → Status → Byte × Status) (s : State) : Out :=
  let e := effAddr s m
  let r := e.st.memRead e.addr
  let q := op r.1 s.p
  .next (((r.2.memWrite e.addr q.1).setP q.2).retire i 0)

/-- R103: ADC. -/
def execAdc (o : ReadOperand) (s : State) : Out := accumulateWith (.adc o) o adc s

/-- R104: SBC. -/
def execSbc (o : ReadOperand) (s : State) : Out := accumulateWith (.sbc o) o sbc s

/-- R106: CMP. -/
def execCmp (o : ReadOperand) (s : State) : Out := testWith (.cmp o) o (compareFlags s.a) s

/-- R107: CPX. -/
def execCpx (o : ReadOperand) (s : State) : Out := testWith (.cpx o) o (compareFlags s.x) s

/-- R108: CPY. -/
def execCpy (o : ReadOperand) (s : State) : Out := testWith (.cpy o) o (compareFlags s.y) s

/-- R109: INC. -/
def execInc (m : MemOperand) (s : State) : Out := modifyWith (.inc m) m (fun v p => (v + 1, setNZ p (v + 1))) s

/-- R110: DEC. -/
def execDec (m : MemOperand) (s : State) : Out := modifyWith (.dec m) m (fun v p => (v - 1, setNZ p (v - 1))) s

/-- R111: INX. -/
def execInx (s : State) : Out := moveWith .inx (s.x + 1) State.setX s

/-- R112: INY. -/
def execIny (s : State) : Out := moveWith .iny (s.y + 1) State.setY s

/-- R113: DEX. -/
def execDex (s : State) : Out := moveWith .dex (s.x - 1) State.setX s

/-- R114: DEY. -/
def execDey (s : State) : Out := moveWith .dey (s.y - 1) State.setY s

end Sys2Proof.Machine
end

