-- ==== Sys2Proof/Machine/Control.lean ====
section
/-! DEFINITION. Control transfer, BRK and NOP (45_control.md). -/

namespace Sys2Proof.Machine

/-- R124: JMP. -/
def execJmp (j : JumpOperand) (s : State) : Out :=
  let t := jumpTarget s j
  .next ((t.2.setPc t.1).retire (.jmp j) 0)

/-- R125: JSR. PC is start + 3 here, so the pushed address, start + 2, is PC - 1. -/
def execJsr (w : Word) (s : State) : Out := .next (((s.pushWord (s.pc - 1)).setPc w).retire (.jsr w) 0)

/-- R126: RTS. -/
def execRts (s : State) : Out :=
  let t := s.pullWord
  .next ((t.2.setPc (t.1 + 1)).retire .rts 0)

/-- R127: RTI. -/
def execRti (s : State) : Out := .next (s.returnFromException.retire .rti 0)

/-- R128: the cycles a branch takes beyond its base. -/
def branchPenalty (taken : Bool) (next target : Word) : Nat :=
  if taken then (if hi target != hi next then 2 else 1) else 0

/-- R128: `Branch(cond)`. PC is start + 2 here. -/
def branchWith (i : Instr) (off : Byte) (taken : Bool) (s : State) : Out :=
  let target := branchTarget s.pc off
  .next ((if taken then s.setPc target else s).retire i (branchPenalty taken s.pc target))

/-- R129: BPL. -/
def execBpl (off : Byte) (s : State) : Out := branchWith (.bpl off) off (!s.p.n) s

/-- R130: BMI. -/
def execBmi (off : Byte) (s : State) : Out := branchWith (.bmi off) off s.p.n s

/-- R131: BVC. -/
def execBvc (off : Byte) (s : State) : Out := branchWith (.bvc off) off (!s.p.v) s

/-- R132: BVS. -/
def execBvs (off : Byte) (s : State) : Out := branchWith (.bvs off) off s.p.v s

/-- R133: BCC. -/
def execBcc (off : Byte) (s : State) : Out := branchWith (.bcc off) off (!s.p.c) s

/-- R134: BCS. -/
def execBcs (off : Byte) (s : State) : Out := branchWith (.bcs off) off s.p.c s

/-- R135: BNE. -/
def execBne (off : Byte) (s : State) : Out := branchWith (.bne off) off (!s.p.z) s

/-- R136: BEQ. -/
def execBeq (off : Byte) (s : State) : Out := branchWith (.beq off) off s.p.z s

/-- R137: BRK. PC is start + 1 here, so the pushed address, start + 2, is PC + 1. -/
def execBrk (s : State) : Out :=
  .next ((s.takeException (s.pc + 1) (pushImageSW s.p) irqVector).retire .brk 0)

/-- R138: NOP. -/
def execNop (s : State) : Out := .next (s.retire .nop 0)

end Sys2Proof.Machine
end

