-- ==== Sys2Proof/Machine/FlagOps.lean ====
section
/-! DEFINITION. Flag instructions (46_flags.md). -/

namespace Sys2Proof.Machine

/-- R139: CLC. -/
def execClc (s : State) : Out := .next ((s.setP { s.p with c := false }).retire .clc 0)

/-- R140: CLD. -/
def execCld (s : State) : Out := .next ((s.setP { s.p with d := false }).retire .cld 0)

/-- R141: CLI. -/
def execCli (s : State) : Out := .next ((s.setP { s.p with i := false }).retire .cli 0)

/-- R142: CLV. -/
def execClv (s : State) : Out := .next ((s.setP { s.p with v := false }).retire .clv 0)

/-- R143: SEC. -/
def execSec (s : State) : Out := .next ((s.setP { s.p with c := true }).retire .sec 0)

/-- R144: SED. -/
def execSed (s : State) : Out := .next ((s.setP { s.p with d := true }).retire .sed 0)

/-- R145: SEI. -/
def execSei (s : State) : Out := .next ((s.setP { s.p with i := true }).retire .sei 0)

end Sys2Proof.Machine
end

