-- ==== Sys2Proof/Machine/Logic.lean ====
section
/-! DEFINITION. Logic, bit test and shifts (44_logic_shift.md). -/

namespace Sys2Proof.Machine

/-- R115: AND. -/
def execAnd (o : ReadOperand) (s : State) : Out :=
  accumulateWith (.and o) o (fun a m p => (a &&& m, setNZ p (a &&& m))) s

/-- R116: ORA. -/
def execOra (o : ReadOperand) (s : State) : Out :=
  accumulateWith (.ora o) o (fun a m p => (a ||| m, setNZ p (a ||| m))) s

/-- R117: EOR. -/
def execEor (o : ReadOperand) (s : State) : Out :=
  accumulateWith (.eor o) o (fun a m p => (a ^^^ m, setNZ p (a ^^^ m))) s

/-- R118: BIT. -/
def execBit (o : ReadOperand) (s : State) : Out := testWith (.bit o) o (bitFlags s.a) s

/-- R119: a shift of A or of a byte of memory. -/
def shiftWith (i : Instr) (o : ShiftOperand) (op : Byte → Status → Byte × Status) (s : State) : Out :=
  match o with
  | .accumulator =>
    let q := op s.a s.p
    .next (((s.setA q.1).setP q.2).retire i 0)
  | .memory m => modifyWith i m op s

/-- R120: ASL. -/
def execAsl (o : ShiftOperand) (s : State) : Out := shiftWith (.asl o) o aslOp s

/-- R121: LSR. -/
def execLsr (o : ShiftOperand) (s : State) : Out := shiftWith (.lsr o) o lsrOp s

/-- R122: ROL. -/
def execRol (o : ShiftOperand) (s : State) : Out := shiftWith (.rol o) o rolOp s

/-- R123: ROR. -/
def execRor (o : ShiftOperand) (s : State) : Out := shiftWith (.ror o) o rorOp s

end Sys2Proof.Machine
end

