-- ==== Sys2Proof/Machine/Stack.lean ====
section
/-! DEFINITION. Stack instructions (42_stack.md). -/

namespace Sys2Proof.Machine

/-- R98: PHA. -/
def execPha (s : State) : Out := .next ((s.push s.a).retire .pha 0)

/-- R99: PHP. -/
def execPhp (s : State) : Out := .next ((s.push (pushImageSW s.p)).retire .php 0)

/-- R100: PLA. -/
def execPla (s : State) : Out :=
  let r := s.pull
  .next (((r.2.setA r.1).setP (setNZ s.p r.1)).retire .pla 0)

/-- R101: PLP. -/
def execPlp (s : State) : Out :=
  let r := s.pull
  .next ((r.2.setP (statusOfByte r.1)).retire .plp 0)

end Sys2Proof.Machine
end

