-- ==== Sys2Proof/Machine/Unknown.lean ====
section
/-! DEFINITION. The unknown-opcode condition (R150). -/

namespace Sys2Proof.Machine

/-- R150: the record every policy leaves first. What it holds as the mode is not specified: a free value. -/
def State.recordUnknown (s : State) (op : Byte) : State :=
  { s with
    lastStep := .instruction
    lastResult := { opcode := op, mode := Config.freeMode s.dev.freeDraws, operandBytes := [], cycles := 0, unknown := true }
    dev := { s.dev with freeDraws := s.dev.freeDraws + 1 } }

/-- R150: `UNKNOWN_NOP_CYCLES`, a parameter. -/
def unknownNopCyclesOf (c : Config) : Nat := c.unknownNopCycles.getD Config.openUnknownNopCycles

/-- R150: policy `Stop`: the instruction did not start. PC is start + 1 here. -/
def State.stopOnUnknown (s : State) (op : Byte) : State :=
  { s.recordUnknown op with
    pc := s.pc - 1
    stepCycles := 0
    runStatus := .stopped (.unknownOpcode op (s.pc - 1)) }

/-- R150: policy `SkipAsNop`: a 1-byte no-operation that counts as an instruction. -/
def State.skipUnknown (s : State) (op : Byte) : State :=
  { s.recordUnknown op with
    stepCycles := unknownNopCyclesOf s.cfg
    instructionsExecuted := s.instructionsExecuted + 1 }

/-- R150: an undefined opcode. -/
def execUndefined (op : Byte) (s : State) : Out :=
  match s.cfg.unknownOpcodePolicy with
  | .stop => .next (s.stopOnUnknown op)
  | .skipAsNop => .next (s.skipUnknown op)

end Sys2Proof.Machine
end

