-- ==== Sys2Proof/Machine/Cycle.lean ====
section
/-! DEFINITION. The parts of a system step (R164): fetching an instruction (R67), the interrupt poll and entries (R146,
R147, R154 to R156), the chip catch-up (R164, R151, R148), and the stop conditions (R161 to R163). -/

namespace Sys2Proof.Machine

/-! ### Fetching an instruction (R67, R57) -/

/-- A fetched instruction and the state with PC past its bytes. -/
structure Fetched where
  instr : Instr
  st : State
  deriving DecidableEq, Repr

/-- R67, R68: the opcode fetch, then the operand-byte fetches that the opcode's length asks for, in address order. -/
def fetchInstr (s : State) : Fetched :=
  let f0 := s.fetch
  match opLength f0.1 with
  | 2 =>
    let f1 := f0.2.fetch
    { instr := instrOf f0.1 f1.1 0, st := f1.2 }
  | 3 =>
    let f1 := f0.2.fetch
    let f2 := f1.2.fetch
    { instr := instrOf f0.1 f1.1 f2.1, st := f2.2 }
  | _ => { instr := instrOf f0.1 0 0, st := f0.2 }

/-! ### Interrupt entry (R154 to R156) -/

/-- R154: `Interrupt(vector)`: 7 cycles, not counted as an instruction. `last_result` keeps the last instruction's
record (log entry 7). -/
def State.interrupt (s : State) (kind : StepKind) (vector : Word) : State :=
  { s.takeException s.pc (pushImageHW s.p) vector with stepCycles := 7, lastStep := kind }

/-- R155: NMI entry. -/
def State.nmiEntry (s : State) : State := { s with nmiPending := false }.interrupt .nmiEntry nmiVector

/-- R156: IRQ entry. -/
def State.irqEntry (s : State) : State := s.interrupt .irqEntry irqVector

/-! ### The CPU step (R146) -/

/-- R147: what the poll at an instruction boundary chooses. -/
def poll (s : State) : StepKind :=
  if s.nmiPending then .nmiEntry else if s.irqLine && !s.p.i then .irqEntry else .instruction

/-- R67: one instruction. -/
def runInstruction (s : State) : Out := exec (fetchInstr s).instr (fetchInstr s).st

/-- R146: one CPU step. -/
def cpuStep (s : State) : Out :=
  match poll s with
  | .nmiEntry => .next s.nmiEntry
  | .irqEntry => .next s.irqEntry
  | .instruction | .none => runInstruction s

/-! ### The chips catch up (R164) -/

/-- R164: n, the cycles of the step with those that badlines stole. The lines are entered in one advance, which clears
`frame_complete` first (R170). -/
def catchUpCycles (s : State) (t : Timing) : Nat :=
  s.stepCycles + stolenCycles s.cfg t (t.lines + 1) s.stepCycles (vicAdvance t 0 s.dev.vic)

/-- R164: the VIC-II, the two CIAs and the SID advanced by n cycles. -/
def devicesAdvance (c : Config) (t : Timing) (n : Nat) (d : Devices) : Devices :=
  { d with
    vic := vicAdvance t n d.vic
    cia1 := ciaAdvance n d.cia1
    cia2 := ciaAdvance n d.cia2
    sid := sidAdvance c n d.sid }

/-- R151: `irq_line = vic_irq_out or cia1_irq_out`. -/
def c64IrqLine (d : Devices) : Bool := vicIrqOut d.vic || ciaIrqOut d.cia1

/-- R151: `nmi_line = cia2_irq_out or restore_key`. -/
def c64NmiLine (d : Devices) (inp : Inputs) : Bool := ciaIrqOut d.cia2 || inp.restoreKey

/-- R148: the NMI line at a new level: a change from deasserted to asserted sets the latch. -/
def State.setNmiLine (s : State) (level : Bool) : State :=
  { s with nmiLine := level, nmiPending := s.nmiPending || (level && !s.nmiLine) }

/-- R151, R164: both lines recomputed from the devices. -/
def State.refreshLines (s : State) : State :=
  { s with irqLine := c64IrqLine s.dev }.setNmiLine (c64NmiLine s.dev s.inputs)

/-- R164: the catch-up and the cycle count of a step. -/
def State.catchUp (s : State) : State :=
  match s.cfg.platform with
  | .bare => { s with totalCycles := s.totalCycles + s.stepCycles }
  | .c64 m =>
    let t := timingOf s.cfg m
    let n := catchUpCycles s t
    { (s.withDev (devicesAdvance s.cfg t n s.dev)).refreshLines with totalCycles := s.totalCycles + n }

/-! ### Evaluators and stop conditions (R161 to R163) -/

/-- R162: what a predicate says of a state. -/
def predHolds (s : State) : Pred → Bool
  | .pcIs w => s.pc == w
  | .aIs b => s.a == b
  | .xIs b => s.x == b
  | .yIs b => s.y == b
  | .spIs b => s.sp == b
  | .statusHas mask value => s.p.toByte &&& mask == value
  | .memoryIs w b => (s.busRead w).1 == b
  | .cyclesAtLeast n => decide (n ≤ s.totalCycles)
  | .instructionsAtLeast n => decide (n ≤ s.instructionsExecuted)
  | .external id => Config.externalEvaluator id s
  | .negation p => !predHolds s p
  | .both p q => predHolds s p && predHolds s q
  | .either p q => predHolds s p || predHolds s q

/-- R163: PC equals an enabled breakpoint address. -/
def breakpointHit (s : State) : Bool :=
  ((s.cfg.breakpoints.find? (fun b => b.1 == s.pc)).map Prod.snd).getD false

/-- R162, R163: the answer of the breakpoint evaluator, or else of the first of `EVALUATORS` that triggers. DESIGN CHOICE:
the breakpoint evaluator is asked first (log entry 14); its Description is "breakpoint", and an answer that does not
trigger has ReasonType Other and an empty Description (log entry 27). -/
def evaluate (s : State) : TriggerResult :=
  if breakpointHit s then { triggered := true, reasonType := .debugBreakPoint, description := "breakpoint" }
  else match s.cfg.evaluators.find? (fun e => predHolds s e.pred) with
    | some e => { triggered := true, reasonType := e.reason, description := e.description }
    | none => { triggered := false, reasonType := .other, description := "" }

/-- R161, R162: the stop reason of an evaluator's reason type. -/
def reasonOf : ReasonType → StopReason
  | .debugBreakPoint => .debugBreakPoint
  | .cycleLimit => .cycleLimit
  | .instructionLimit => .instructionLimit
  | .other => .other

/-- R161: the step executed BRK. -/
def executedBrk (s : State) : Bool :=
  s.lastStep == .instruction && s.lastResult.opcode == 0x00 && !s.lastResult.unknown

/-- R161: a budget is used up. -/
def reached (budget : Option Nat) (used : Nat) : Bool :=
  match budget with
  | none => false
  | some b => decide (b ≤ used)

/-- R161: the first stop condition that holds after a system step, in the rule's order. -/
def stopCondition (s : State) (e : TriggerResult) : RunStatus :=
  match s.runStatus with
  | .stopped r => .stopped r
  | .running =>
    if executedBrk s && s.cfg.stopOnBrk then .stopped .brk
    else if reached s.cfg.maxInstructions (s.instructionsExecuted - s.run.startInstructions) then
      .stopped .instructionLimit
    else if reached s.cfg.maxCycles (s.totalCycles - s.run.startCycles) then .stopped .cycleLimit
    else if e.triggered then .stopped (reasonOf e.reasonType)
    else .running

/-- R164: "run evaluators; check stop conditions". -/
def State.checkStops (s : State) : State :=
  { s with lastTrigger := evaluate s, runStatus := stopCondition s (evaluate s) }

/-- R164: what a system step does after its CPU step. -/
def State.finishStep (s : State) : State := s.catchUp.checkStops

/-- R164: one system step. -/
def systemStep (s : State) : Out :=
  match cpuStep s with
  | .next t => .next t.finishStep
  | .fault f => .fault f
  | .refused r => .refused r

/-- R164, R161: one system step of a run; a run that has stopped takes none. -/
def runStep (s : State) : Out :=
  match s.runStatus with
  | .running => systemStep s
  | .stopped r => .fault (.runStopped r)

/-- Bytes laid out in RAM from an address on, addresses modulo 65536. -/
def layBytes (m : Mem) (a : Word) : List Byte → Mem
  | [] => m
  | b :: bs => layBytes (m.write a.toNat b) (a + 1) bs

/-- The three bytes of a numbered instruction, byte 0 first. -/
def tableWordBytes (nbits w : Nat) : List Byte :=
  let v := w % 2 ^ nbits
  [BitVec.ofNat 8 v, BitVec.ofNat 8 (v / 256), BitVec.ofNat 8 (v / 65536)]

end Sys2Proof.Machine
end

