-- ==== Sys2Proof/Machine/Step.lean ====
section
/-! DEFINITION. The step function of the machine, and the placing of an instruction where it fetches. -/

namespace Sys2Proof.Machine

/-- R164: one system step of the run loop. -/
def step (s : State) : Host.Outcome State Fault Refusal := runStep s

/-- The state with an instruction's bytes in RAM at PC, running and with no interrupt to take, so that the next step
fetches and runs it (R147, R54). PC's cells must read RAM, as all do on the bare platform. -/
def State.withFetchWord (s : State) (nbits w : Nat) : State :=
  { s with
    ram := layBytes s.ram s.pc (tableWordBytes nbits w)
    nmiPending := false
    irqLine := false
    runStatus := .running }

end Sys2Proof.Machine
end

