-- ==== Sys2Proof/Machine/HostOps.lean ====
section
/-! DEFINITION. What the host does between system steps (R167): RESET (R190), the inputs (R151, R187), breakpoints,
loading (R195), hook registration (R34), building the system (R191 to R193), and running it (R161, R165). -/

namespace Sys2Proof.Machine

/-! ### RESET (R190) -/

/-- R190: RESET. It changes no memory cell and, but for what reading a hooked vector does, no device. A new run begins
(log entry 6). -/
def State.applyReset (s : State) : State :=
  let v := s.read16 resetVector
  { v.2 with
    a := 0x00
    x := 0x00
    y := 0x00
    sp := 0xFD
    pc := v.1
    p := { n := false, v := false, d := false, i := true, z := false, c := false }
    nmiPending := false
    totalCycles := 0
    instructionsExecuted := 0
    runStatus := .running
    run := { startCycles := 0, startInstructions := 0 } }

/-! ### Inputs (R151, R167, R187) -/

/-- R151, R167: the host drives `irq_line` (bare platform); `nmi_line` is driven by `State.setNmiLine`. -/
def State.setIrqLine (s : State) (level : Bool) : State := { s with irqLine := level }

/-- R167: the host drives the RESTORE key (C64). -/
def State.setRestoreKey (s : State) (pressed : Bool) : State :=
  { s with inputs := { s.inputs with restoreKey := pressed } }

/-- R187: the host sets the key matrix and the joysticks (C64). -/
def State.setControls (s : State) (keys : List (Nat × Nat)) (joystick1 joystick2 : BitVec 5) : State :=
  { s with inputs := { s.inputs with keys := keys, joystick1 := joystick1, joystick2 := joystick2 } }

/-- R167: the host changes `BREAKPOINTS` between runs. -/
def State.setBreakpoints (s : State) (b : List (Word × Bool)) : State :=
  { s with cfg := { s.cfg with breakpoints := b } }

/-! ### Loading (R195) -/

/-- R195: the bytes written with `MemWrite` in address order, past $FFFF on from $0000. -/
def State.writeBytes (s : State) (a : Word) : List Byte → State
  | [] => s
  | b :: bs => State.writeBytes (s.memWrite a b) (a + 1) bs

/-- R195: what the loader reports. -/
structure LoadReport where
  loadedAtAddress : Word
  fileLength : Nat
  deriving DecidableEq, Repr

/-- R195: loading a buffer with its 2-byte header; none where the header is missing: the load did not occur. -/
def State.loadWithHeader (s : State) : List Byte → Option (State × LoadReport)
  | b0 :: b1 :: rest =>
    some (s.writeBytes (cat b1 b0) rest, { loadedAtAddress := cat b1 b0, fileLength := rest.length })
  | _ => none

/-- R195: loading a buffer without a header, at the caller's address. -/
def State.loadAt (s : State) (a : Word) (buffer : List Byte) : State × LoadReport :=
  (s.writeBytes a buffer, { loadedAtAddress := a, fileLength := buffer.length })

/-! ### Hook registration (R34) and building (R191 to R193) -/

/-- R193: the configuration errors. -/
inductive ConfigError where
  | invalidModelName
  | invalidVicVariant
  | missingRom
  | romChecksumMismatch
  | romWrongLength
  | mapRamPastEnd
  deriving DecidableEq, Repr

/-- R34: `MapReader(address, fn)`; the latest registration of an address wins. -/
def State.mapReader (s : State) (a : Word) (d : Device) : State :=
  { s with hooks := { s.hooks with readers := { start := a.toNat, length := 1, device := d } :: s.hooks.readers } }

/-- R34: `MapWriter(address, fn)`. -/
def State.mapWriter (s : State) (a : Word) (d : Device) : State :=
  { s with hooks := { s.hooks with writers := { start := a.toNat, length := 1, device := d } :: s.hooks.writers } }

/-- R34: the length of an external buffer, by its number; a number with no buffer has length 0. -/
def bufferLength (s : State) (id : Nat) : Nat := (s.dev.buffers.getD id []).length

/-- R34: `MapRAM(start, buffer)`, the buffer by its number, so that ranges mapped to one buffer share its bytes: both
hooks of each address of the range; a range past $FFFF is a configuration error. -/
def State.mapRam (s : State) (start id : Nat) : Except ConfigError State :=
  if ramSize < start + bufferLength s id then .error .mapRamPastEnd
  else
    let h : HookRange := { start := start, length := bufferLength s id, device := .buffer id 0 }
    .ok { s with hooks := { readers := h :: s.hooks.readers, writers := h :: s.hooks.writers } }

/-- R34: one registration, made when the system is built. -/
inductive Registration where
  | mapReader (a : Word) (d : Device)
  | mapWriter (a : Word) (d : Device)
  | mapRam (start id : Nat)
  deriving DecidableEq, Repr

/-- R34: one registration made. -/
def State.register (s : State) : Registration → Except ConfigError State
  | .mapReader a d => .ok (s.mapReader a d)
  | .mapWriter a d => .ok (s.mapWriter a d)
  | .mapRam start id => s.mapRam start id

/-- R34, R193: the registrations made in order; the first configuration error ends them. -/
def State.registerAll (s : State) : List Registration → Except ConfigError State
  | [] => .ok s
  | r :: rs =>
    match s.register r with
    | .ok t => t.registerAll rs
    | .error e => .error e

/-- R48: the hooks of the C64: reader hooks on the BASIC, KERNAL and I/O windows, a writer hook on the I/O window. -/
def c64Hooks : Hooks where
  readers :=
    [{ start := 0xA000, length := 0x2000, device := .basicWindow },
     { start := 0xD000, length := 0x1000, device := .ioWindow },
     { start := 0xE000, length := 0x2000, device := .kernalWindow }]
  writers := [{ start := 0xD000, length := 0x1000, device := .ioWindow }]

/-- R192: a ROM image "identified by name+checksum". DESIGN CHOICE: no check reads the name (log entry 28). -/
structure RomImage where
  name : String
  bytes : List Byte
  checksum : Nat
  deriving DecidableEq, Repr

/-- R192: the platform asked for. -/
inductive PlatformRequest where
  | bare
  | c64 (modelName variant : String) (kernal basic chargen : Option RomImage)
  deriving DecidableEq, Repr

/-- R191, R192, R34: what building takes: the other parameters of R6, the contents of RAM and colour RAM, which the
spec does not specify, and the external buffers and registrations beyond the platform's own. -/
structure BuildRequest where
  params : Config
  platform : PlatformRequest
  ram : List Host.Cell
  colourRam : List Host.Cell
  buffers : List (List Byte)
  registrations : List Registration
  deriving DecidableEq, Repr

/-- R192: the model names the document gives. -/
def validModelNames : List String := ["C64NTSC", "C64PAL"]

/-- R192: the VIC-II variant of a name. -/
def vicVariant (name : String) : Option VicModel :=
  if name = "NTSC" then some .ntsc else if name = "NTSC_old" then some .ntscOld
  else if name = "PAL" then some .pal else none

/-- R193: a ROM image checked for presence, length and checksum. Which of the three images it is follows from its place
in the request, and its name is not looked at: the spec gives no names (DESIGN CHOICE, log entry 28). -/
def checkRom (r : Option RomImage) (length : Nat) : Except ConfigError (List Byte) :=
  match r with
  | none => .error .missingRom
  | some r =>
    if r.bytes.length ≠ length then .error .romWrongLength
    else if Config.checksum r.bytes ≠ r.checksum then .error .romChecksumMismatch
    else .ok r.bytes

/-- R191: the state before RESET and before any further registration: the requested contents, devices as built, the
hooks of the platform. -/
def builtState (c : Config) (h : Hooks) (ram colour : Mem) (buffers : List (List Byte)) : State :=
  { State.reset with
    cfg := c, hooks := h, ram := ram, dev := { Devices.reset with colourRam := colour, buffers := buffers } }

/-- R191: colour RAM holds 1024 cells of 4 bits. -/
def colourOf (cells : List Host.Cell) : Mem := Mem.ofCells 1024 (cells.map (fun c => (c.1, c.2 &&& 0x0F)))

/-- R192, R47, R48: the platform laid out: the bare platform has no hook of its own, the C64 its windows, its checked
ROM images, and cells $0000 and $0001 at $00 (R191). DESIGN CHOICE: of several configuration errors the one reported is
the first in this order: model name, variant, then KERNAL, BASIC and CHARGEN, each for presence, length, checksum, and
after them `buildSystem`'s registrations (log entry 30). -/
def layOut (r : BuildRequest) : Except ConfigError State := do
  match r.platform with
  | .bare =>
    return builtState { r.params with platform := .bare } { readers := [], writers := [] } (Mem.ofCells ramSize r.ram) []
      r.buffers
  | .c64 modelName variant kernal basic chargen =>
    if !validModelNames.contains modelName then throw .invalidModelName
    match vicVariant variant with
    | none => throw .invalidVicVariant
    | some m =>
      let k ← checkRom kernal 8192
      let b ← checkRom basic 8192
      let g ← checkRom chargen 4096
      let ram := ((Mem.ofCells ramSize r.ram).write 0 0x00).write 1 0x00
      return builtState { r.params with platform := .c64 m, roms := { kernal := k, basic := b, chargen := g } } c64Hooks
        ram (colourOf r.colourRam) r.buffers

/-- R192, R193: building the system: validation, the platform's memory layout and device state, the registrations
(R34), then RESET. -/
def buildSystem (r : BuildRequest) : Except ConfigError State := do
  let s ← layOut r
  let t ← s.registerAll r.registrations
  return t.applyReset

/-! ### Running (R161, R165) -/

/-- R161: a run begins: the machine is Running, and R161's budgets count from here. The PC it starts at is not checked
against the breakpoints (R163). -/
def State.startRun (s : State) : State :=
  { s with
    runStatus := .running
    run := { startCycles := s.totalCycles, startInstructions := s.instructionsExecuted } }

/-- R161: what `Execute` returns: the cycles consumed in the run. -/
def State.runCycles (s : State) : Nat := s.totalCycles - s.run.startCycles

/-- Steps of a run until it stops, at most `fuel`. -/
def runUntilStopped : Nat → State → State
  | 0, s => s
  | fuel + 1, s =>
    match step s with
    | .next t => runUntilStopped fuel t
    | .fault _ | .refused _ => s

/-- R161: `Execute(options)`, looking at no more than `fuel` system steps. -/
def execute (fuel : Nat) (s : State) : State := runUntilStopped fuel s.startRun

/-- R164: `RunOneInstruction()`: one system step. -/
def runOneInstruction (s : State) : Out := step s.startRun

/-- How `RunOneFrame` came back. -/
inductive FrameEnd where
  | frameComplete
  | stopped (r : StopReason)
  | outOfFuel
  deriving DecidableEq, Repr

/-- R165: system steps until the raster wraps or a stop condition holds. -/
def runFrame : Nat → State → State × FrameEnd
  | 0, s => (s, .outOfFuel)
  | fuel + 1, s =>
    match step s with
    | .next t =>
      match t.runStatus with
      | .stopped r => (t, .stopped r)
      | .running => if t.dev.vic.frameComplete then (t, .frameComplete) else runFrame fuel t
    | .fault (.runStopped r) => (s, .stopped r)
    | .refused _ => (s, .outOfFuel)

/-- R165: `RunOneFrame()`, of the C64 platform; with the bare platform there is no frame and it is not defined. -/
def runOneFrame (fuel : Nat) (s : State) : Option (State × FrameEnd) :=
  match s.cfg.platform with
  | .bare => none
  | .c64 _ => some (runFrame fuel s.startRun)

/-! ### What the host reads (R167, R176, R182) -/

/-- R182: the AudioCommands of the three voices. -/
def audioCommands (s : State) : List AudioCommand :=
  [s.dev.sid.voice0.lastCommand, s.dev.sid.voice1.lastCommand, s.dev.sid.voice2.lastCommand]

/-- R175: the value of a VIC-II register that the current frame shows on a raster line. -/
def shownRegister (s : State) (reg line : Nat) : Byte := frameRegOnLine s.dev.vic.frame reg line

end Sys2Proof.Machine
end

