-- ==== Sys2Proof/Safety.lean ====
section
/-! DEFINITION. The terms in which claims speak of a sound state: the invariant that every step keeps. -/

namespace Sys2Proof.Machine

/-- R175, R172: a frame log speaks of the 64 registers only. -/
structure FrameLog.Sound (f : FrameLog) : Prop where
  start : f.start.wf 64 = true
  writes : ∀ w ∈ f.writes, w.reg < 64

/-- R168: the VIC-II: the raster position lies in the frame (where there is a frame), storage is canonical, and no write
of the current frame was issued on a later line than the current one. -/
structure Vic.Sound (v : Vic) : Prop where
  regs : v.regs.wf 64 = true
  frame : v.frame.Sound
  lastFrame : v.lastFrame.Sound
  issued : ∀ w ∈ v.frame.writes, w.line ≤ v.rasterLine

/-- R168: `raster_line` in 0..LINES-1 and `cycle_in_line` in 0..CYCLES_PER_LINE-1. -/
structure Vic.InFrame (t : Timing) (v : Vic) : Prop where
  line : v.rasterLine < t.lines
  cycle : v.cycleInLine < t.cyclesPerLine

/-- R177, R179: `level` is a number in [0, 1], and an Idle voice is at 0. -/
structure Voice.Sound (v : Voice) : Prop where
  low : 0 ≤ v.level
  high : v.level ≤ 1
  idle : v.phase = .idle → v.level = 0

/-- R185: bit 4 of CRA and CRB is not stored. -/
structure Cia.Sound (c : Cia) : Prop where
  strobeA : c.timerA.control.getLsbD 4 = false
  strobeB : c.timerB.control.getLsbD 4 = false

/-- The devices. Colour RAM has 1024 cells of 4 bits (R48). -/
structure Devices.Sound (d : Devices) : Prop where
  vic : d.vic.Sound
  voice0 : d.sid.voice0.Sound
  voice1 : d.sid.voice1.Sound
  voice2 : d.sid.voice2.Sound
  cia1 : d.cia1.Sound
  cia2 : d.cia2.Sound
  colour : d.colourRam.wf 1024 = true
  nibbles : ∀ c ∈ d.colourRam, c.2.toNat < 16

/-- The invariant of the machine. -/
structure State.Inv (s : State) : Prop where
  ram : s.ram.wf ramSize = true
  dev : s.dev.Sound
  raster : ∀ m, s.cfg.platform = .c64 m → (timingOf s.cfg m).positive = true → s.dev.vic.InFrame (timingOf s.cfg m)

/-- A state from which the next step is taken. -/
def State.Proceeds (s : State) : Prop := ∃ t, step s = .next t

end Sys2Proof.Machine
end

