-- ==== Sys2Proof/Certificates/Slice0/Obligations.lean ====
section
/-! DEFINITION. The statements for the provers, with the few terms they share. A statement about an instruction is about
`exec` on the state in which the instruction's bytes are fetched (R67): PC is the address of the next instruction. -/

namespace Sys2Proof.Spec

open Sys2Proof.Machine

/-- R85: N and Z follow a byte, and no other flag changes. -/
def nz (p : Status) (v : Byte) : Status := { p with n := v.getLsbD 7, z := decide (v.toNat = 0) }

/-- The CPU registers of a state are these. -/
structure Regs (t : State) (a x y sp : Byte) (pc : Word) (p : Status) : Prop where
  a : t.a = a
  x : t.x = x
  y : t.y = y
  sp : t.sp = sp
  pc : t.pc = pc
  p : t.p = p

/-- The instruction i ended in t: its cycles and its record (R29, R84), and everything that is neither a CPU register,
nor RAM, nor device state is as before. -/
structure Retired (i : Instr) (cycles : Nat) (s t : State) : Prop where
  stepCycles : t.stepCycles = cycles
  counted : t.instructionsExecuted = s.instructionsExecuted + 1
  record : t.lastResult = ⟨i.opcode, i.mode, i.operandBytes, cycles, false⟩
  kind : t.lastStep = .instruction
  cfg : t.cfg = s.cfg
  hooks : t.hooks = s.hooks
  nmiLine : t.nmiLine = s.nmiLine
  nmiPending : t.nmiPending = s.nmiPending
  irqLine : t.irqLine = s.irqLine
  totalCycles : t.totalCycles = s.totalCycles
  runStatus : t.runStatus = s.runStatus
  run : t.run = s.run
  lastTrigger : t.lastTrigger = s.lastTrigger
  inputs : t.inputs = s.inputs

/-- Every byte of RAM outside these addresses reads as before. -/
def RamSameBut (addrs : List Word) (s t : State) : Prop := ∀ c : Word, c ∉ addrs → t.ramByte c = s.ramByte c

/-- No hook covers the address. -/
def Plain (s : State) (a : Word) : Prop :=
  hookAt s.hooks.readers a.toNat = none ∧ hookAt s.hooks.writers a.toNat = none

/-- R14: the stack byte k places below the one SP selects, in page 1. -/
def stackSlot (s : State) (k : Nat) : Word := BitVec.ofNat 16 (0x100 + (s.sp.toNat + 256 - k) % 256)

/-- R14: the stack byte k places above the one SP selects, in page 1. -/
def stackAbove (s : State) (k : Nat) : Word := BitVec.ofNat 16 (0x100 + (s.sp.toNat + k) % 256)

/-- R199: base cycles of a memory read. -/
def memReadCycles : MemOperand → Nat
  | .zeroPage _ => 3
  | .zeroPageX _ | .zeroPageY _ | .absolute _ | .absoluteX _ | .absoluteY _ => 4
  | .indirectX _ => 6
  | .indirectY _ => 5

/-- R199, R83: the cycles of a read instruction: 2 for Immediate, the base of the mode, and 1 when a page is crossed. -/
def readCycles (s : State) : ReadOperand → Nat
  | .immediate _ => 2
  | .memory m => memReadCycles m + if (effAddr s m).crossed then 1 else 0

/-- R199: the cycles of a store. -/
def storeCycles : MemOperand → Nat
  | .zeroPage _ => 3
  | .zeroPageX _ | .zeroPageY _ | .absolute _ => 4
  | .absoluteX _ | .absoluteY _ => 5
  | .indirectX _ | .indirectY _ => 6

/-- R199: the cycles of a read-modify-write instruction in the modes it has. -/
def modifyCycles : MemOperand → Nat
  | .zeroPage _ => 5
  | .absoluteX _ => 7
  | _ => 6

/-- R147: what the poll at a boundary takes when the lines are as in s and I is `i`: the flag an instruction has just
written counts at the very next boundary. -/
def polled (s : State) (i : Bool) : StepKind :=
  if s.nmiPending = true then .nmiEntry else if s.irqLine = true ∧ i = false then .irqEntry else .instruction

/-- A read instruction: M and the device state after its reads. -/
abbrev operandByte (s : State) (o : ReadOperand) : Byte := (readOperand s o).val

/-- A completed read instruction: it stores nothing, and devices are as its reads left them. -/
structure ReadDone (i : Instr) (o : ReadOperand) (s t : State) : Prop where
  retired : Retired i (readCycles s o) s t
  ram : RamSameBut [] s t
  dev : t.dev = (readOperand s o).st.dev

/-- A completed instruction that accesses no memory. -/
structure QuietDone (i : Instr) (cycles : Nat) (s t : State) : Prop where
  retired : Retired i cycles s t
  ram : RamSameBut [] s t
  dev : t.dev = s.dev

end Sys2Proof.Spec

open Sys2Proof Sys2Proof.Machine Sys2Proof.Spec

/-! ### Encoding -/

/-- 30_encoding.md: decoding the encoding of a well-formed instruction gives the instruction, at every operand. -/
def Obligations.DecodeAfterEncode : Prop :=
  ∀ (i : Instr) (rest : List Byte), i.wf = true → decode (encode i ++ rest) = .ok (i, rest)

/-- 30_encoding.md: what decodes is a well-formed instruction whose encoding is the bytes read. -/
def Obligations.EncodeAfterDecode : Prop :=
  ∀ (bytes rest : List Byte) (i : Instr), decode bytes = .ok (i, rest) → i.wf = true ∧ encode i ++ rest = bytes

/-- R61: the rows $0x to $3x of the map; `none` is a cell marked `--`. -/
def Sys2Proof.Spec.opcodeMap0 : List (List (Option (Mnemonic × Mode))) :=
  [[some (.brk, .implied), some (.ora, .indirectX), none, none, none, some (.ora, .zeroPage),
    some (.asl, .zeroPage), none, some (.php, .implied), some (.ora, .immediate), some (.asl, .accumulator),
    none, none, some (.ora, .absolute), some (.asl, .absolute), none],
   [some (.bpl, .relative), some (.ora, .indirectY), none, none, none, some (.ora, .zeroPageX),
    some (.asl, .zeroPageX), none, some (.clc, .implied), some (.ora, .absoluteY), none, none, none,
    some (.ora, .absoluteX), some (.asl, .absoluteX), none],
   [some (.jsr, .absolute), some (.and, .indirectX), none, none, some (.bit, .zeroPage), some (.and, .zeroPage),
    some (.rol, .zeroPage), none, some (.plp, .implied), some (.and, .immediate), some (.rol, .accumulator),
    none, some (.bit, .absolute), some (.and, .absolute), some (.rol, .absolute), none],
   [some (.bmi, .relative), some (.and, .indirectY), none, none, none, some (.and, .zeroPageX),
    some (.rol, .zeroPageX), none, some (.sec, .implied), some (.and, .absoluteY), none, none, none,
    some (.and, .absoluteX), some (.rol, .absoluteX), none]]

/-- R61: the rows $4x to $7x of the map; `none` is a cell marked `--`. -/
def Sys2Proof.Spec.opcodeMap1 : List (List (Option (Mnemonic × Mode))) :=
  [[some (.rti, .implied), some (.eor, .indirectX), none, none, none, some (.eor, .zeroPage),
    some (.lsr, .zeroPage), none, some (.pha, .implied), some (.eor, .immediate), some (.lsr, .accumulator),
    none, some (.jmp, .absolute), some (.eor, .absolute), some (.lsr, .absolute), none],
   [some (.bvc, .relative), some (.eor, .indirectY), none, none, none, some (.eor, .zeroPageX),
    some (.lsr, .zeroPageX), none, some (.cli, .implied), some (.eor, .absoluteY), none, none, none,
    some (.eor, .absoluteX), some (.lsr, .absoluteX), none],
   [some (.rts, .implied), some (.adc, .indirectX), none, none, none, some (.adc, .zeroPage),
    some (.ror, .zeroPage), none, some (.pla, .implied), some (.adc, .immediate), some (.ror, .accumulator),
    none, some (.jmp, .indirect), some (.adc, .absolute), some (.ror, .absolute), none],
   [some (.bvs, .relative), some (.adc, .indirectY), none, none, none, some (.adc, .zeroPageX),
    some (.ror, .zeroPageX), none, some (.sei, .implied), some (.adc, .absoluteY), none, none, none,
    some (.adc, .absoluteX), some (.ror, .absoluteX), none]]

/-- R61: the rows $8x to $Bx of the map; `none` is a cell marked `--`. -/
def Sys2Proof.Spec.opcodeMap2 : List (List (Option (Mnemonic × Mode))) :=
  [[none, some (.sta, .indirectX), none, none, some (.sty, .zeroPage), some (.sta, .zeroPage),
    some (.stx, .zeroPage), none, some (.dey, .implied), none, some (.txa, .implied), none,
    some (.sty, .absolute), some (.sta, .absolute), some (.stx, .absolute), none],
   [some (.bcc, .relative), some (.sta, .indirectY), none, none, some (.sty, .zeroPageX),
    some (.sta, .zeroPageX), some (.stx, .zeroPageY), none, some (.tya, .implied), some (.sta, .absoluteY),
    some (.txs, .implied), none, none, some (.sta, .absoluteX), none, none],
   [some (.ldy, .immediate), some (.lda, .indirectX), some (.ldx, .immediate), none, some (.ldy, .zeroPage),
    some (.lda, .zeroPage), some (.ldx, .zeroPage), none, some (.tay, .implied), some (.lda, .immediate),
    some (.tax, .implied), none, some (.ldy, .absolute), some (.lda, .absolute), some (.ldx, .absolute), none],
   [some (.bcs, .relative), some (.lda, .indirectY), none, none, some (.ldy, .zeroPageX),
    some (.lda, .zeroPageX), some (.ldx, .zeroPageY), none, some (.clv, .implied), some (.lda, .absoluteY),
    some (.tsx, .implied), none, some (.ldy, .absoluteX), some (.lda, .absoluteX), some (.ldx, .absoluteY), none]]

/-- R61: the rows $Cx to $Fx of the map; `none` is a cell marked `--`. -/
def Sys2Proof.Spec.opcodeMap3 : List (List (Option (Mnemonic × Mode))) :=
  [[some (.cpy, .immediate), some (.cmp, .indirectX), none, none, some (.cpy, .zeroPage), some (.cmp, .zeroPage),
    some (.dec, .zeroPage), none, some (.iny, .implied), some (.cmp, .immediate), some (.dex, .implied), none,
    some (.cpy, .absolute), some (.cmp, .absolute), some (.dec, .absolute), none],
   [some (.bne, .relative), some (.cmp, .indirectY), none, none, none, some (.cmp, .zeroPageX),
    some (.dec, .zeroPageX), none, some (.cld, .implied), some (.cmp, .absoluteY), none, none, none,
    some (.cmp, .absoluteX), some (.dec, .absoluteX), none],
   [some (.cpx, .immediate), some (.sbc, .indirectX), none, none, some (.cpx, .zeroPage), some (.sbc, .zeroPage),
    some (.inc, .zeroPage), none, some (.inx, .implied), some (.sbc, .immediate), some (.nop, .implied), none,
    some (.cpx, .absolute), some (.sbc, .absolute), some (.inc, .absolute), none],
   [some (.beq, .relative), some (.sbc, .indirectY), none, none, none, some (.sbc, .zeroPageX),
    some (.inc, .zeroPageX), none, some (.sed, .implied), some (.sbc, .absoluteY), none, none, none,
    some (.sbc, .absoluteX), some (.inc, .absoluteX), none]]

/-- R61: the cell of an opcode byte: row by its high nibble, column by its low nibble. -/
def Sys2Proof.Spec.opcodeCell (op : Byte) : Option (Mnemonic × Mode) :=
  ((opcodeMap0 ++ opcodeMap1 ++ opcodeMap2 ++ opcodeMap3).getD (op.toNat / 16) []).getD (op.toNat % 16) none

/-- R61: every byte as an opcode decodes to the mnemonic and the mode of its cell in the map, whatever follows it. -/
def Obligations.OpcodeMap : Prop :=
  ∀ (op b1 b2 : Byte) (rest : List Byte), ∃ i r, decode (op :: b1 :: b2 :: rest) = .ok (i, r)
    ∧ (opcodeCell op = none ↔ i = .undefined op)
    ∧ ∀ mn mode, opcodeCell op = some (mn, mode) → i.mnemonic = mn ∧ i.mode = mode

/-- R57: the length of an instruction is 1, 2 or 3, by its mode, and the opcode alone fixes it. -/
def Obligations.LengthFollowsMode : Prop :=
  ∀ i : Instr, i.wf = true → (∀ op, i ≠ .undefined op) →
    (encode i).length = opLength i.opcode
    ∧ ((encode i).length = 1 ↔ i.mode = .implied ∨ i.mode = .accumulator)
    ∧ ((encode i).length = 3 ↔ i.mode = .absolute ∨ i.mode = .absoluteX ∨ i.mode = .absoluteY ∨ i.mode = .indirect)
    ∧ ((encode i).length = 2 ↔ i.mode = .immediate ∨ i.mode = .zeroPage ∨ i.mode = .zeroPageX ∨ i.mode = .zeroPageY
        ∨ i.mode = .indirectX ∨ i.mode = .indirectY ∨ i.mode = .relative)

/-- Words written out from R61's map and R65's examples. -/
def Obligations.WordsDecode : Prop :=
  decode [0xA9, 0x2A] = .ok (.lda (.immediate 0x2A), [])
  ∧ decode [0xBD, 0x34, 0x12] = .ok (.lda (.memory (.absoluteX 0x1234)), [])
  ∧ decode [0x96, 0xFF] = .ok (.stx (.zeroPageY 0xFF), [])
  ∧ decode [0x6C, 0x34, 0x12] = .ok (.jmp (.indirect 0x1234), [])
  ∧ decode [0xD0, 0xFE, 0xEA] = .ok (.bne 0xFE, [0xEA])
  ∧ decode [0x0A] = .ok (.asl .accumulator, [])
  ∧ decode [0x89, 0x01] = .ok (.undefined 0x89, [0x01])

/-- R62: the undefined values are 105, a byte decodes to `undefined` exactly when it is one of them, and when it is
fetched as an opcode the step records the unknown-opcode condition. -/
def Obligations.UndefinedOpcodesRaise : Prop :=
  undefinedOpcodes.length = 105
  ∧ (∀ (op : Byte) (rest : List Byte), decode (op :: rest) = .ok (.undefined op, rest) ↔ op ∈ undefinedOpcodes)
  ∧ (∀ (s : State) (op : Byte), op ∈ undefinedOpcodes → (s.busRead s.pc).1 = op →
      ∃ t, runInstruction s = .next t ∧ t.lastResult.opcode = op ∧ t.lastResult.unknown = true
        ∧ t.lastResult.operandBytes = [] ∧ t.lastResult.cycles = 0)

/-! ### Addressing modes -/

/-- R73 to R78: the modes that read no pointer: zero-page indexing wraps in page 0, absolute indexing is modulo 65536 and
may cross a page. No access is made. -/
def Obligations.DirectAddresses : Prop :=
  ∀ (s : State) (b : Byte) (w : Word),
    (effAddr s (.zeroPage b)).addr.toNat = b.toNat
    ∧ (effAddr s (.zeroPageX b)).addr.toNat = (b.toNat + s.x.toNat) % 256
    ∧ (effAddr s (.zeroPageY b)).addr.toNat = (b.toNat + s.y.toNat) % 256
    ∧ (effAddr s (.absolute w)).addr = w
    ∧ (effAddr s (.absoluteX w)).addr.toNat = (w.toNat + s.x.toNat) % 65536
    ∧ (effAddr s (.absoluteY w)).addr.toNat = (w.toNat + s.y.toNat) % 65536
    ∧ (∀ m ∈ [MemOperand.zeroPage b, .zeroPageX b, .zeroPageY b, .absolute w], (effAddr s m).crossed = false)
    ∧ ((effAddr s (.absoluteX w)).crossed = true ↔ w.toNat / 256 ≠ (w.toNat + s.x.toNat) % 65536 / 256)
    ∧ ((effAddr s (.absoluteY w)).crossed = true ↔ w.toNat / 256 ≠ (w.toNat + s.y.toNat) % 65536 / 256)
    ∧ (∀ m ∈ [MemOperand.zeroPage b, .zeroPageX b, .zeroPageY b, .absolute w, .absoluteX w, .absoluteY w],
        (effAddr s m).st = s)

/-- R79 to R81: the pointer modes: which two bytes are read, low byte first, and what address they make. -/
def Obligations.PointerAddresses : Prop :=
  ∀ (s : State) (b : Byte) (w : Word),
    (let l := s.memRead (BitVec.ofNat 16 ((b.toNat + s.x.toNat) % 256))
     let h := l.2.memRead (BitVec.ofNat 16 ((b.toNat + s.x.toNat + 1) % 256))
     (effAddr s (.indirectX b)).addr.toNat = h.1.toNat * 256 + l.1.toNat
      ∧ (effAddr s (.indirectX b)).crossed = false ∧ (effAddr s (.indirectX b)).st = h.2)
    ∧ (let l := s.memRead (BitVec.ofNat 16 b.toNat)
       let h := l.2.memRead (BitVec.ofNat 16 ((b.toNat + 1) % 256))
       let base := h.1.toNat * 256 + l.1.toNat
       (effAddr s (.indirectY b)).addr.toNat = (base + s.y.toNat) % 65536
        ∧ ((effAddr s (.indirectY b)).crossed = true ↔ base / 256 ≠ (base + s.y.toNat) % 65536 / 256)
        ∧ (effAddr s (.indirectY b)).st = h.2)
    ∧ (let l := s.memRead w
       let h := l.2.memRead (BitVec.ofNat 16 (w.toNat / 256 * 256 + (w.toNat + 1) % 256))
       (jumpTarget s (.indirect w)).1.toNat = h.1.toNat * 256 + l.1.toNat ∧ (jumpTarget s (.indirect w)).2 = h.2)

/-- R72, R69: an immediate operand is the byte itself; a memory operand is read once, at the effective address. -/
def Obligations.OperandIsReadOnce : Prop :=
  ∀ (s : State) (b : Byte) (m : MemOperand),
    (operandByte s (.immediate b) = b ∧ (readOperand s (.immediate b)).st = s)
    ∧ (let r := (effAddr s m).st.memRead (effAddr s m).addr
       operandByte s (.memory m) = r.1 ∧ (readOperand s (.memory m)).st = r.2)
    ∧ (s.hooks.readers = [] → operandByte s (.memory m) = s.ramByte (effAddr s m).addr
        ∧ (readOperand s (.memory m)).st = s)

/-! ### Loads, stores, transfers -/

/-- R85 to R88: a load takes M, N and Z follow it, and nothing else changes but what reading M did to a device. -/
def Obligations.LoadsTakeOperand : Prop :=
  ∀ (s : State) (o : ReadOperand),
    ((Instr.lda o).wf = true → ∃ t, exec (.lda o) s = .next t ∧ ReadDone (.lda o) o s t
      ∧ Regs t (operandByte s o) s.x s.y s.sp s.pc (nz s.p (operandByte s o)))
    ∧ ((Instr.ldx o).wf = true → ∃ t, exec (.ldx o) s = .next t ∧ ReadDone (.ldx o) o s t
      ∧ Regs t s.a (operandByte s o) s.y s.sp s.pc (nz s.p (operandByte s o)))
    ∧ ((Instr.ldy o).wf = true → ∃ t, exec (.ldy o) s = .next t ∧ ReadDone (.ldy o) o s t
      ∧ Regs t s.a s.x (operandByte s o) s.sp s.pc (nz s.p (operandByte s o)))

/-- R89 to R91: a store writes its register at the effective address, once, and no flag and no register changes. -/
def Obligations.StoresWriteRegister : Prop :=
  ∀ (s : State) (m : MemOperand) (i : Instr) (v : Byte),
    (i, v) ∈ [(Instr.sta m, s.a), (Instr.stx m, s.x), (Instr.sty m, s.y)] → i.wf = true →
    ∃ t, exec i s = .next t ∧ Retired i (storeCycles m) s t
      ∧ Regs t s.a s.x s.y s.sp s.pc s.p
      ∧ RamSameBut [(effAddr s m).addr] s t
      ∧ (t.ram, t.dev) = (effAddr s m).st.busWrite (effAddr s m).addr v
      ∧ (s.ram.wf ramSize = true → hookAt s.hooks.writers (effAddr s m).addr.toNat = none →
          t.ramByte (effAddr s m).addr = v)

/-- R92 to R97: the transfers; TXS alone leaves N and Z unchanged. -/
def Obligations.TransfersMoveRegister : Prop :=
  ∀ s : State,
    (∃ t, exec .tax s = .next t ∧ QuietDone .tax 2 s t ∧ Regs t s.a s.a s.y s.sp s.pc (nz s.p s.a))
    ∧ (∃ t, exec .tay s = .next t ∧ QuietDone .tay 2 s t ∧ Regs t s.a s.x s.a s.sp s.pc (nz s.p s.a))
    ∧ (∃ t, exec .txa s = .next t ∧ QuietDone .txa 2 s t ∧ Regs t s.x s.x s.y s.sp s.pc (nz s.p s.x))
    ∧ (∃ t, exec .tya s = .next t ∧ QuietDone .tya 2 s t ∧ Regs t s.y s.x s.y s.sp s.pc (nz s.p s.y))
    ∧ (∃ t, exec .tsx s = .next t ∧ QuietDone .tsx 2 s t ∧ Regs t s.a s.sp s.y s.sp s.pc (nz s.p s.sp))
    ∧ (∃ t, exec .txs s = .next t ∧ QuietDone .txs 2 s t ∧ Regs t s.a s.x s.y s.x s.pc s.p)

/-! ### Stack -/

/-- R98, R99: a push writes at $0100 + SP, then SP goes down by 1 modulo 256; PHP's image is P with bits 5 and 4 set. -/
def Obligations.PushesWriteStack : Prop :=
  ∀ (s : State) (i : Instr) (v : Byte),
    (i, v) ∈ [(Instr.pha, s.a), (Instr.php, s.p.toByte ||| 0x30)] →
    ∃ t, exec i s = .next t ∧ Retired i 3 s t
      ∧ Regs t s.a s.x s.y (BitVec.ofNat 8 (s.sp.toNat + 255)) s.pc s.p
      ∧ RamSameBut [stackSlot s 0] s t
      ∧ (t.ram, t.dev) = s.busWrite (stackSlot s 0) v
      ∧ (s.ram.wf ramSize = true → Plain s (stackSlot s 0) → t.ramByte (stackSlot s 0) = v)

/-- R100, R101: a pull reads at $0100 + ((SP + 1) mod 256) and SP goes up; PLP ignores bits 5 and 4 of the byte,
and the next poll reads the I it pulled. -/
def Obligations.PullsReadStack : Prop :=
  ∀ s : State,
    let v := ({ s with sp := s.sp + 1 }.busRead (stackAbove s 1)).1
    let d := ({ s with sp := s.sp + 1 }.busRead (stackAbove s 1)).2
    (Plain s (stackAbove s 1) → v = s.ramByte (stackAbove s 1) ∧ d = s.dev)
    ∧ (∃ t, exec .pla s = .next t ∧ Retired .pla 4 s t ∧ RamSameBut [] s t ∧ t.dev = d
        ∧ Regs t v s.x s.y (BitVec.ofNat 8 (s.sp.toNat + 1)) s.pc (nz s.p v))
    ∧ (∃ t, exec .plp s = .next t ∧ Retired .plp 4 s t ∧ RamSameBut [] s t ∧ t.dev = d
        ∧ Regs t s.a s.x s.y (BitVec.ofNat 8 (s.sp.toNat + 1)) s.pc
            ⟨v.getLsbD 7, v.getLsbD 6, v.getLsbD 3, v.getLsbD 2, v.getLsbD 1, v.getLsbD 0⟩
        ∧ t.p.toByte = (v &&& 0xCF) ||| 0x20 ∧ poll t = polled s (v.getLsbD 2))

/-! ### Arithmetic -/

/-- R103: ADC in binary mode and in the NMOS decimal mode. -/
def Obligations.AdcAdds : Prop :=
  ∀ (s : State) (o : ReadOperand), (Instr.adc o).wf = true →
    let m := operandByte s o
    let c := if s.p.c then 1 else 0
    ∃ t, exec (.adc o) s = .next t ∧ ReadDone (.adc o) o s t
      ∧ t.x = s.x ∧ t.y = s.y ∧ t.sp = s.sp ∧ t.pc = s.pc ∧ t.p.i = s.p.i ∧ t.p.d = s.p.d
      ∧ (s.p.d = false →
          t.a.toNat = (s.a.toNat + m.toNat + c) % 256
          ∧ t.p.c = decide (255 < s.a.toNat + m.toNat + c)
          ∧ t.p.v = ((s.a ^^^ t.a) &&& (m ^^^ t.a)).getLsbD 7
          ∧ t.p.n = t.a.getLsbD 7 ∧ t.p.z = decide (t.a = 0))
      ∧ (s.p.d = true →
          let al0 := s.a.toNat % 16 + m.toNat % 16 + c
          let al := if 10 ≤ al0 then (al0 + 6) % 16 + 16 else al0
          let sum : Int := (s.a &&& 0xF0).toInt + (m &&& 0xF0).toInt + al
          let u := s.a.toNat / 16 * 16 + m.toNat / 16 * 16 + al
          let u' := if 0xA0 ≤ u then u + 0x60 else u
          t.a.toNat = u' % 256
          ∧ t.p.c = decide (0x100 ≤ u')
          ∧ t.p.z = decide ((s.a.toNat + m.toNat + c) % 256 = 0)
          ∧ t.p.n = decide (128 ≤ sum % 256)
          ∧ t.p.v = decide (sum < -128 ∨ 127 < sum))

/-- R104: SBC: the flags of the binary subtraction in both modes, the result of the mode. -/
def Obligations.SbcSubtracts : Prop :=
  ∀ (s : State) (o : ReadOperand), (Instr.sbc o).wf = true →
    let m := operandByte s o
    let c : Int := if s.p.c then 1 else 0
    let diff : Int := (s.a.toNat : Int) - m.toNat - (1 - c)
    ∃ t, exec (.sbc o) s = .next t ∧ ReadDone (.sbc o) o s t
      ∧ t.x = s.x ∧ t.y = s.y ∧ t.sp = s.sp ∧ t.pc = s.pc ∧ t.p.i = s.p.i ∧ t.p.d = s.p.d
      ∧ t.p.c = decide (0 ≤ diff)
      ∧ t.p.z = decide (diff % 256 = 0)
      ∧ t.p.n = decide (128 ≤ diff % 256)
      ∧ t.p.v = ((s.a ^^^ m) &&& (s.a ^^^ BitVec.ofInt 8 diff)).getLsbD 7
      ∧ (s.p.d = false → (t.a.toNat : Int) = diff % 256)
      ∧ (s.p.d = true →
          let al0 : Int := (s.a.toNat % 16 : Int) - (m.toNat % 16 : Int) + c - 1
          let al : Int := if al0 < 0 then (al0 - 6) % 16 - 16 else al0
          let u : Int := (s.a.toNat / 16 * 16 : Int) - (m.toNat / 16 * 16 : Int) + al
          (t.a.toNat : Int) = (if u < 0 then u - 0x60 else u) % 256)

/-- R22, R102: in binary mode V says that the signed sum or difference does not fit in a byte. -/
def Obligations.OverflowIsSigned : Prop :=
  ∀ (s : State) (o : ReadOperand), s.p.d = false →
    let m := operandByte s o
    let c : Int := if s.p.c then 1 else 0
    (∀ t, exec (.adc o) s = .next t →
      (t.p.v = true ↔ s.a.toInt + m.toInt + c < -128 ∨ 127 < s.a.toInt + m.toInt + c))
    ∧ (∀ t, exec (.sbc o) s = .next t →
      (t.p.v = true ↔ s.a.toInt - m.toInt - (1 - c) < -128 ∨ 127 < s.a.toInt - m.toInt - (1 - c)))

/-- 43_arithmetic.md, D19: on two-digit BCD operands decimal ADC and SBC are addition and subtraction of the numbers
from 0 to 99, with carry and borrow. -/
def Obligations.DecimalModeCountsInTens : Prop :=
  ∀ (s : State) (o : ReadOperand), s.p.d = true →
    let m := operandByte s o
    let value (b : Byte) : Int := 10 * (b.toNat / 16) + b.toNat % 16
    let c : Int := if s.p.c then 1 else 0
    s.a.toNat / 16 < 10 → s.a.toNat % 16 < 10 → m.toNat / 16 < 10 → m.toNat % 16 < 10 →
    (∀ t, exec (.adc o) s = .next t →
      value t.a = (value s.a + value m + c) % 100 ∧ t.a.toNat / 16 < 10 ∧ t.a.toNat % 16 < 10
        ∧ (t.p.c = true ↔ 100 ≤ value s.a + value m + c))
    ∧ (∀ t, exec (.sbc o) s = .next t →
      value t.a = (value s.a - value m - (1 - c)) % 100 ∧ t.a.toNat / 16 < 10 ∧ t.a.toNat % 16 < 10
        ∧ (t.p.c = true ↔ 0 ≤ value s.a - value m - (1 - c)))

/-- R105 to R108: a compare subtracts without storing, in either mode: C when the register is not below M, N and Z from
the difference. -/
def Obligations.ComparesSetFlags : Prop :=
  ∀ (s : State) (o : ReadOperand) (i : Instr) (r : Byte),
    (i, r) ∈ [(Instr.cmp o, s.a), (Instr.cpx o, s.x), (Instr.cpy o, s.y)] → i.wf = true →
    let diff : Int := (r.toNat : Int) - (operandByte s o).toNat
    ∃ t, exec i s = .next t ∧ ReadDone i o s t
      ∧ Regs t s.a s.x s.y s.sp s.pc
          { s.p with c := decide (0 ≤ diff), z := decide (diff = 0), n := decide (128 ≤ diff % 256) }

/-- R109, R110: INC and DEC of memory: one read, one write of the byte plus or minus 1, N and Z. -/
def Obligations.IncDecMemory : Prop :=
  ∀ (s : State) (m : MemOperand) (i : Instr) (delta : Nat),
    (i, delta) ∈ [(Instr.inc m, 1), (Instr.dec m, 255)] → i.wf = true →
    let e := effAddr s m
    let old := e.st.busRead e.addr
    let new : Byte := BitVec.ofNat 8 (old.1.toNat + delta)
    ∃ t, exec i s = .next t ∧ Retired i (modifyCycles m) s t
      ∧ Regs t s.a s.x s.y s.sp s.pc (nz s.p new)
      ∧ RamSameBut [e.addr] s t
      ∧ (t.ram, t.dev) = (e.st.withDev old.2).busWrite e.addr new
      ∧ (s.ram.wf ramSize = true → Plain s e.addr → old.1 = s.ramByte e.addr ∧ t.ramByte e.addr = new)

/-- R111 to R114: INX, INY, DEX, DEY. -/
def Obligations.IncDecRegisters : Prop :=
  ∀ s : State,
    let x1 : Byte := BitVec.ofNat 8 (s.x.toNat + 1)
    let y1 : Byte := BitVec.ofNat 8 (s.y.toNat + 1)
    let x0 : Byte := BitVec.ofNat 8 (s.x.toNat + 255)
    let y0 : Byte := BitVec.ofNat 8 (s.y.toNat + 255)
    (∃ t, exec .inx s = .next t ∧ QuietDone .inx 2 s t ∧ Regs t s.a x1 s.y s.sp s.pc (nz s.p x1))
    ∧ (∃ t, exec .iny s = .next t ∧ QuietDone .iny 2 s t ∧ Regs t s.a s.x y1 s.sp s.pc (nz s.p y1))
    ∧ (∃ t, exec .dex s = .next t ∧ QuietDone .dex 2 s t ∧ Regs t s.a x0 s.y s.sp s.pc (nz s.p x0))
    ∧ (∃ t, exec .dey s = .next t ∧ QuietDone .dey 2 s t ∧ Regs t s.a s.x y0 s.sp s.pc (nz s.p y0))

/-! ### Logic and shifts -/

/-- R115 to R117: AND, ORA, EOR, bit by bit. -/
def Obligations.LogicCombinesBits : Prop :=
  ∀ (s : State) (o : ReadOperand) (i : Instr) (f : Bool → Bool → Bool),
    ((i, f) = (Instr.and o, and) ∨ (i, f) = (Instr.ora o, or) ∨ (i, f) = (Instr.eor o, xor)) → i.wf = true →
    ∃ t, exec i s = .next t ∧ ReadDone i o s t
      ∧ Regs t t.a s.x s.y s.sp s.pc (nz s.p t.a)
      ∧ (∀ k < 8, t.a.getLsbD k = f (s.a.getLsbD k) ((operandByte s o).getLsbD k))

/-- R118: BIT: Z from A AND M, N and V from M; A is unchanged. -/
def Obligations.BitTestsOperand : Prop :=
  ∀ (s : State) (o : ReadOperand), (Instr.bit o).wf = true →
    ∃ t, exec (.bit o) s = .next t ∧ ReadDone (.bit o) o s t
      ∧ Regs t s.a s.x s.y s.sp s.pc
          { s.p with
            n := (operandByte s o).getLsbD 7
            v := (operandByte s o).getLsbD 6
            z := decide (s.a.toNat &&& (operandByte s o).toNat = 0) }

/-- The result and the carry out of each shift (R120 to R123). -/
def Sys2Proof.Spec.Shifted (i : Instr) (o : ShiftOperand) (v r : Byte) (cin cout : Bool) : Prop :=
  (i = .asl o ∧ r.toNat = v.toNat * 2 % 256 ∧ cout = v.getLsbD 7)
  ∨ (i = .lsr o ∧ r.toNat = v.toNat / 2 ∧ cout = v.getLsbD 0)
  ∨ (i = .rol o ∧ r.toNat = (v.toNat * 2 + if cin then 1 else 0) % 256 ∧ cout = v.getLsbD 7)
  ∨ (i = .ror o ∧ r.toNat = v.toNat / 2 + (if cin then 0x80 else 0) ∧ cout = v.getLsbD 0)

/-- R119 to R123: the shifts of A: no memory access. -/
def Obligations.ShiftsOfAccumulator : Prop :=
  ∀ (s : State) (i : Instr),
    i ∈ [Instr.asl .accumulator, .lsr .accumulator, .rol .accumulator, .ror .accumulator] →
    ∃ t cout, exec i s = .next t ∧ QuietDone i 2 s t ∧ Shifted i .accumulator s.a t.a s.p.c cout
      ∧ Regs t t.a s.x s.y s.sp s.pc { nz s.p t.a with c := cout }

/-- R119 to R123: the shifts of memory: one read and one write. -/
def Obligations.ShiftsOfMemory : Prop :=
  ∀ (s : State) (m : MemOperand) (i : Instr),
    i ∈ [Instr.asl (.memory m), .lsr (.memory m), .rol (.memory m), .ror (.memory m)] → i.wf = true →
    let e := effAddr s m
    let old := e.st.busRead e.addr
    ∃ t new cout, exec i s = .next t ∧ Retired i (modifyCycles m) s t
      ∧ Shifted i (.memory m) old.1 new s.p.c cout
      ∧ Regs t s.a s.x s.y s.sp s.pc { nz s.p new with c := cout }
      ∧ RamSameBut [e.addr] s t
      ∧ (t.ram, t.dev) = (e.st.withDev old.2).busWrite e.addr new
      ∧ (s.ram.wf ramSize = true → Plain s e.addr → old.1 = s.ramByte e.addr ∧ t.ramByte e.addr = new)

/-! ### Control transfer -/

/-- R124: JMP. -/
def Obligations.JmpGoesToTarget : Prop :=
  ∀ (s : State) (w : Word),
    (∃ t, exec (.jmp (.absolute w)) s = .next t ∧ QuietDone (.jmp (.absolute w)) 3 s t
      ∧ Regs t s.a s.x s.y s.sp w s.p)
    ∧ (let l := s.memRead w
       let h := l.2.memRead (BitVec.ofNat 16 (w.toNat / 256 * 256 + (w.toNat + 1) % 256))
       ∃ t, exec (.jmp (.indirect w)) s = .next t ∧ Retired (.jmp (.indirect w)) 5 s t
        ∧ Regs t s.a s.x s.y s.sp (BitVec.ofNat 16 (h.1.toNat * 256 + l.1.toNat)) s.p
        ∧ RamSameBut [] s t ∧ t.dev = h.2.dev)

/-- R125: JSR pushes the address of its last byte (PC - 1 here), high byte first, and jumps. -/
def Obligations.JsrPushesReturn : Prop :=
  ∀ (s : State) (w : Word),
    let ret := (s.pc.toNat + 65535) % 65536
    ∃ t, exec (.jsr w) s = .next t ∧ Retired (.jsr w) 6 s t
      ∧ Regs t s.a s.x s.y (BitVec.ofNat 8 (s.sp.toNat + 254)) w s.p
      ∧ RamSameBut [stackSlot s 0, stackSlot s 1] s t
      ∧ (let u := (s.push (BitVec.ofNat 8 (ret / 256))).push (BitVec.ofNat 8 ret); t.ram = u.ram ∧ t.dev = u.dev)
      ∧ (s.ram.wf ramSize = true → Plain s (stackSlot s 0) → Plain s (stackSlot s 1) →
          (t.ramByte (stackSlot s 0)).toNat = ret / 256 ∧ (t.ramByte (stackSlot s 1)).toNat = ret % 256)

/-- R126: RTS pulls low then high and adds 1. -/
def Obligations.RtsPullsReturn : Prop :=
  ∀ s : State,
    let l := s.pull
    let h := l.2.pull
    ∃ t, exec .rts s = .next t ∧ Retired .rts 6 s t
      ∧ Regs t s.a s.x s.y (BitVec.ofNat 8 (s.sp.toNat + 2))
          (BitVec.ofNat 16 (h.1.toNat * 256 + l.1.toNat + 1)) s.p
      ∧ RamSameBut [] s t ∧ t.dev = h.2.dev
      ∧ (Plain s (stackAbove s 1) → Plain s (stackAbove s 2) →
          l.1 = s.ramByte (stackAbove s 1) ∧ h.1 = s.ramByte (stackAbove s 2) ∧ t.dev = s.dev)

/-- R127: RTI pulls the flags, ignoring bits 5 and 4, then PC, with no 1 added; the next poll reads the I it pulled. -/
def Obligations.RtiRestores : Prop :=
  ∀ s : State,
    let f := s.pull
    let l := (f.2.setP ⟨f.1.getLsbD 7, f.1.getLsbD 6, f.1.getLsbD 3, f.1.getLsbD 2, f.1.getLsbD 1, f.1.getLsbD 0⟩).pull
    let h := l.2.pull
    ∃ t, exec .rti s = .next t ∧ Retired .rti 6 s t
      ∧ Regs t s.a s.x s.y (BitVec.ofNat 8 (s.sp.toNat + 3)) (BitVec.ofNat 16 (h.1.toNat * 256 + l.1.toNat))
          ⟨f.1.getLsbD 7, f.1.getLsbD 6, f.1.getLsbD 3, f.1.getLsbD 2, f.1.getLsbD 1, f.1.getLsbD 0⟩
      ∧ RamSameBut [] s t ∧ t.dev = h.2.dev ∧ poll t = polled s (f.1.getLsbD 2)
      ∧ (Plain s (stackAbove s 1) → Plain s (stackAbove s 2) → Plain s (stackAbove s 3) →
          f.1 = s.ramByte (stackAbove s 1) ∧ l.1 = s.ramByte (stackAbove s 2) ∧ h.1 = s.ramByte (stackAbove s 3)
          ∧ t.dev = s.dev)

/-- R82, R128 to R136: a branch goes to PC plus its signed offset when its flag has the value it asks for; it takes 2
cycles, 3 when taken, 4 when taken to another page. -/
def Obligations.BranchesFollowFlag : Prop :=
  ∀ (s : State) (off : Byte) (i : Instr) (flag wanted : Bool),
    (i, flag, wanted) ∈ [(Instr.bpl off, s.p.n, false), (.bmi off, s.p.n, true), (.bvc off, s.p.v, false),
      (.bvs off, s.p.v, true), (.bcc off, s.p.c, false), (.bcs off, s.p.c, true), (.bne off, s.p.z, false),
      (.beq off, s.p.z, true)] →
    let target : Word := BitVec.ofInt 16 ((s.pc.toNat : Int) + off.toInt)
    (flag = wanted → ∃ t, exec i s = .next t
      ∧ QuietDone i (if target.toNat / 256 = s.pc.toNat / 256 then 3 else 4) s t
      ∧ Regs t s.a s.x s.y s.sp target s.p)
    ∧ (flag ≠ wanted → ∃ t, exec i s = .next t ∧ QuietDone i 2 s t ∧ Regs t s.a s.x s.y s.sp s.pc s.p)

/-- What an entry (R137, R154) leaves: three pushes in order, I set and no other flag changed, PC from the vector. -/
def Sys2Proof.Spec.Entered (ret : Nat) (image : Byte) (vector : Word) (s t : State) : Prop :=
  let u := ((s.push (BitVec.ofNat 8 (ret / 256))).push (BitVec.ofNat 8 ret)).push image
  let l := u.memRead vector
  let h := l.2.memRead (vector + 1)
  Regs t s.a s.x s.y (BitVec.ofNat 8 (s.sp.toNat + 253)) (BitVec.ofNat 16 (h.1.toNat * 256 + l.1.toNat))
    { s.p with i := true }
  ∧ RamSameBut [stackSlot s 0, stackSlot s 1, stackSlot s 2] s t
  ∧ t.ram = u.ram ∧ t.dev = h.2.dev
  ∧ (s.ram.wf ramSize = true → Plain s (stackSlot s 0) → Plain s (stackSlot s 1) → Plain s (stackSlot s 2) →
      (t.ramByte (stackSlot s 0)).toNat = ret / 256 ∧ (t.ramByte (stackSlot s 1)).toNat = ret % 256
      ∧ t.ramByte (stackSlot s 2) = image
      ∧ (Plain s vector → Plain s (vector + 1) →
          t.pc.toNat = (s.ramByte (vector + 1)).toNat * 256 + (s.ramByte vector).toNat ∧ t.dev = s.dev))

/-- R137: BRK pushes start + 2 (PC + 1 here) and P with bits 5 and 4 set, sets I, and goes through $FFFE. -/
def Obligations.BrkEnters : Prop :=
  ∀ s : State, ∃ t, exec .brk s = .next t ∧ Retired .brk 7 s t
    ∧ Entered ((s.pc.toNat + 1) % 65536) (s.p.toByte ||| 0x30) 0xFFFE s t

/-- R138: NOP changes nothing and takes 2 cycles. -/
def Obligations.NopDoesNothing : Prop :=
  ∀ s : State, ∃ t, exec .nop s = .next t ∧ QuietDone .nop 2 s t ∧ Regs t s.a s.x s.y s.sp s.pc s.p

/-- R139 to R145: each flag instruction writes its one flag and nothing else; the next poll (R147) reads the I it leaves. -/
def Obligations.FlagInstructionsWriteOneFlag : Prop :=
  ∀ (s : State) (i : Instr) (p : Status),
    (i, p) ∈ [(Instr.clc, { s.p with c := false }), (.sec, { s.p with c := true }), (.cli, { s.p with i := false }),
      (.sei, { s.p with i := true }), (.cld, { s.p with d := false }), (.sed, { s.p with d := true }),
      (.clv, { s.p with v := false })] →
    ∃ t, exec i s = .next t ∧ QuietDone i 2 s t ∧ Regs t s.a s.x s.y s.sp s.pc p ∧ poll t = polled s p.i

/-- R150: an unknown opcode. Under `Stop` PC goes back to the opcode, nothing is consumed or counted, and the run stops
with the opcode and its address; under `SkipAsNop` it is a 1-byte no-operation of `UNKNOWN_NOP_CYCLES` cycles. -/
def Obligations.UnknownOpcodePolicy : Prop :=
  ∀ (s : State) (op : Byte) (start : Word), s.pc = start + 1 →
    (s.cfg.unknownOpcodePolicy = .stop → ∃ t, exec (.undefined op) s = .next t
      ∧ Regs t s.a s.x s.y s.sp start s.p ∧ RamSameBut [] s t
      ∧ t.stepCycles = 0 ∧ t.instructionsExecuted = s.instructionsExecuted
      ∧ t.runStatus = .stopped (.unknownOpcode op start)
      ∧ t.lastResult.opcode = op ∧ t.lastResult.unknown = true ∧ t.lastResult.cycles = 0
      ∧ t.lastResult.operandBytes = [] ∧ t.dev = { s.dev with freeDraws := s.dev.freeDraws + 1 })
    ∧ (s.cfg.unknownOpcodePolicy = .skipAsNop → ∃ t, exec (.undefined op) s = .next t
      ∧ Regs t s.a s.x s.y s.sp (start + 1) s.p ∧ RamSameBut [] s t
      ∧ t.stepCycles = unknownNopCyclesOf s.cfg ∧ t.instructionsExecuted = s.instructionsExecuted + 1
      ∧ t.runStatus = s.runStatus
      ∧ t.lastResult.opcode = op ∧ t.lastResult.unknown = true ∧ t.lastResult.cycles = 0
      ∧ t.lastResult.operandBytes = [] ∧ t.dev = { s.dev with freeDraws := s.dev.freeDraws + 1 })

/-- R125, R126, R137, R127, R158: where the stack is plain RAM, RTS after JSR returns to the instruction after JSR with
SP as before the call, and RTI after BRK resumes past BRK's padding byte with SP and every flag as before BRK. -/
def Obligations.ReturnsUndoEntries : Prop :=
  ∀ (s : State) (w : Word), s.ram.wf ramSize = true →
    Plain s (stackSlot s 0) → Plain s (stackSlot s 1) → Plain s (stackSlot s 2) →
    (∃ u t, exec (.jsr w) s = .next u ∧ exec .rts u = .next t ∧ Regs t s.a s.x s.y s.sp s.pc s.p)
    ∧ (∃ u t, exec .brk s = .next u ∧ exec .rti u = .next t ∧ Regs t s.a s.x s.y s.sp (s.pc + 1) s.p)

/-- R16 to R18: P as a byte and its two pushed images, and the flags a pulled image gives. -/
def Obligations.StatusImages : Prop :=
  ∀ p : Status,
    p.toByte.getLsbD 5 = true ∧ p.toByte.getLsbD 4 = false
    ∧ p.toByte.toNat = (if p.n then 128 else 0) + (if p.v then 64 else 0) + 32 + (if p.d then 8 else 0)
        + (if p.i then 4 else 0) + (if p.z then 2 else 0) + (if p.c then 1 else 0)
    ∧ pushImageSW p = p.toByte ||| 0x30 ∧ pushImageHW p = p.toByte
    ∧ statusOfByte (pushImageSW p) = p ∧ statusOfByte (pushImageHW p) = p

/-! ### Interrupts -/

/-- What an interrupt entry leaves alone, and its bookkeeping (R154). -/
structure Sys2Proof.Spec.Interrupted (kind : StepKind) (s t : State) : Prop where
  stepCycles : t.stepCycles = 7
  kind : t.lastStep = kind
  notCounted : t.instructionsExecuted = s.instructionsExecuted
  record : t.lastResult = s.lastResult
  totalCycles : t.totalCycles = s.totalCycles
  runStatus : t.runStatus = s.runStatus
  cfg : t.cfg = s.cfg
  hooks : t.hooks = s.hooks
  nmiLine : t.nmiLine = s.nmiLine
  irqLine : t.irqLine = s.irqLine
  inputs : t.inputs = s.inputs

/-- R147, R154 to R156: the poll: a pending NMI is entered and its latch cleared; else an asserted IRQ with I clear is
entered; the pushed image has bit 5 set and bit 4 clear, which is P itself as a byte. -/
def Obligations.InterruptEntries : Prop :=
  ∀ s : State,
    (s.nmiPending = true → ∃ t, cpuStep s = .next t ∧ t.nmiPending = false ∧ Interrupted .nmiEntry s t
      ∧ Entered s.pc.toNat s.p.toByte 0xFFFA s t)
    ∧ (s.nmiPending = false → s.irqLine = true → s.p.i = false →
      ∃ t, cpuStep s = .next t ∧ t.nmiPending = false ∧ Interrupted .irqEntry s t
        ∧ Entered s.pc.toNat s.p.toByte 0xFFFE s t)

/-- R148: the NMI latch is set by a change of the line from deasserted to asserted, and by that alone. -/
def Obligations.NmiIsEdgeTriggered : Prop :=
  ∀ (s : State) (level : Bool), (s.setNmiLine level).nmiLine = level
    ∧ ((s.setNmiLine level).nmiPending = true ↔ s.nmiPending = true ∨ (s.nmiLine = false ∧ level = true))

/-! ### The step -/

/-- R67, R164: where the bytes at PC are plain RAM and decode to i, the step of a running machine is exec of i on the
state with PC past its bytes, then the catch-up and the stop conditions. -/
def Obligations.StepRunsDecoded : Prop :=
  ∀ (s : State) (i : Instr) (rest : List Byte), s.runStatus = .running → s.nmiPending = false →
    (s.irqLine = false ∨ s.p.i = true) →
    (∀ k < 3, hookAt s.hooks.readers (s.pc + BitVec.ofNat 16 k).toNat = none) →
    decode [s.ramByte s.pc, s.ramByte (s.pc + 1), s.ramByte (s.pc + 2)] = .ok (i, rest) →
    ∀ t, exec i (s.setPc (s.pc + BitVec.ofNat 16 (encode i).length)) = .next t → step s = .next t.finishStep

/-- R38, R10, R149, R150: a running machine always takes its step: no access and no instruction faults. That the step of
an unknown opcode under `Stop` is a next state, whose run status is stopped, is the model's choice (log entry 5). -/
def Obligations.RunningMachineSteps : Prop := ∀ s : State, s.runStatus = .running → s.Proceeds

/-- R198, R164, R47: what follows the CPU step changes no CPU register, no flag, no RAM, no count of instructions and no
record. On the bare platform it adds the step's cycles to the total and advances no device; on the C64 it adds those
and the stolen ones, advances the VIC-II, both CIAs and the SID by just as many and no other device, and the lines
become what the devices then drive (R151). With no raster line entered in the step, or with a supplied 0, the count is
the step's own. With one line entered, a supplied function adds its value at that line and at the VIC-II state as it is entered:
that it is asked there is the model's choice (log entry 10). -/
def Obligations.CatchUpLeavesCpu : Prop :=
  ∀ s : State, Regs s.finishStep s.a s.x s.y s.sp s.pc s.p ∧ RamSameBut [] s s.finishStep
    ∧ s.finishStep.instructionsExecuted = s.instructionsExecuted ∧ s.finishStep.lastResult = s.lastResult
    ∧ s.finishStep.cfg = s.cfg ∧ s.finishStep.hooks = s.hooks ∧ s.finishStep.inputs = s.inputs
    ∧ (s.cfg.platform = .bare →
        s.finishStep.totalCycles = s.totalCycles + s.stepCycles ∧ s.finishStep.dev = s.dev
        ∧ s.finishStep.irqLine = s.irqLine ∧ s.finishStep.nmiLine = s.nmiLine
        ∧ s.finishStep.nmiPending = s.nmiPending)
    ∧ (∀ m, s.cfg.platform = .c64 m →
        let d := s.finishStep.dev
        let t := timingOf s.cfg m
        let n := catchUpCycles s t
        s.finishStep.totalCycles = s.totalCycles + n
        ∧ s.stepCycles ≤ n ∧ (s.cfg.badlineStolenCycles = some (.number 0) → n = s.stepCycles)
        ∧ (s.dev.vic.cycleInLine + s.stepCycles < t.cyclesPerLine → n = s.stepCycles)
        ∧ (∀ f k, s.cfg.badlineStolenCycles = some f → 0 < k → s.dev.vic.cycleInLine + k = t.cyclesPerLine →
            k ≤ s.stepCycles →
            let w := vicAdvance t k s.dev.vic
            let stolen := vicFnValue w.rasterLine w f
            s.stepCycles - k + stolen < t.cyclesPerLine → n = s.stepCycles + stolen)
        ∧ d.vic = vicAdvance t n s.dev.vic ∧ d.cia1 = ciaAdvance n s.dev.cia1 ∧ d.cia2 = ciaAdvance n s.dev.cia2
        ∧ d.sid = sidAdvance s.cfg n s.dev.sid
        ∧ d.colourRam = s.dev.colourRam ∧ d.buffers = s.dev.buffers ∧ d.freeDraws = s.dev.freeDraws
        ∧ s.finishStep.irqLine = (vicIrqOut d.vic || ciaIrqOut d.cia1)
        ∧ s.finishStep.nmiLine = (ciaIrqOut d.cia2 || s.inputs.restoreKey)
        ∧ (s.finishStep.nmiPending = true
            ↔ s.nmiPending = true ∨ (s.nmiLine = false ∧ s.finishStep.nmiLine = true)))

/-- R35, R6: no step changes the hook tables or the parameters. -/
def Obligations.StepKeepsTables : Prop :=
  ∀ s t : State, step s = .next t → t.hooks = s.hooks ∧ t.cfg = s.cfg

/-- The invariant of Safety.lean holds at reset. -/
def Obligations.ResetHasInvariant : Prop := State.reset.Inv

/-- Every step keeps the invariant: canonical RAM, register storage and colour RAM nibbles, the raster position in the
frame (where a frame has a line and a cycle), envelope levels in [0, 1], strobe bits never stored. -/
def Obligations.StepKeepsInvariant : Prop := ∀ s t : State, s.Inv → step s = .next t → t.Inv

/-- R12 to R15, R19 to R24: which instructions write each register and each flag. -/
def Obligations.OnlyNamedWriters : Prop :=
  ∀ (i : Instr) (s t : State), exec i s = .next t →
    (t.x ≠ s.x → i.mnemonic ∈ [.ldx, .tax, .tsx, .inx, .dex])
    ∧ (t.y ≠ s.y → i.mnemonic ∈ [.ldy, .tay, .iny, .dey])
    ∧ (t.a ≠ s.a → i.mnemonic ∈ [.lda, .pla, .txa, .tya, .adc, .sbc, .and, .ora, .eor, .asl, .lsr, .rol, .ror])
    ∧ (t.sp ≠ s.sp → i.mnemonic ∈ [.txs, .pha, .php, .pla, .plp, .jsr, .rts, .rti, .brk])
    ∧ (t.p.v ≠ s.p.v → i.mnemonic ∈ [.adc, .sbc, .bit, .clv, .plp, .rti])
    ∧ (t.p.c ≠ s.p.c → i.mnemonic ∈ [.adc, .sbc, .cmp, .cpx, .cpy, .asl, .rol, .lsr, .ror, .clc, .sec, .plp, .rti])
    ∧ (t.p.z ≠ s.p.z ∨ t.p.n ≠ s.p.n → i.mnemonic ∈ [.adc, .sbc, .and, .ora, .eor, .cmp, .cpx, .cpy, .bit, .asl, .lsr,
        .rol, .ror, .inc, .dec, .inx, .iny, .dex, .dey, .lda, .ldx, .ldy, .tax, .tay, .txa, .tya, .tsx, .pla, .plp, .rti])
    ∧ (t.p.d ≠ s.p.d → i.mnemonic ∈ [.sed, .cld, .plp, .rti])
    ∧ (t.p.i ≠ s.p.i → i.mnemonic ∈ [.sei, .cli, .brk, .plp, .rti])
    ∧ (t.pc ≠ s.pc → i.mnemonic ∈ [.jmp, .jsr, .rts, .rti, .brk, .undefined, .bpl, .bmi, .bvc, .bvs, .bcc, .bcs, .bne,
        .beq])

/-- R54, R147: an instruction placed by `withFetchWord` is the one the next step fetches, where the three cells at PC
are plain RAM. -/
def Obligations.PlacedWordIsFetched : Prop :=
  ∀ (s : State) (nbits w : Nat), s.ram.wf ramSize = true →
    (∀ k < 3, hookAt s.hooks.readers (s.pc + BitVec.ofNat 16 k).toNat = none) →
    some (fetchInstr (s.withFetchWord nbits w)).instr = decodeTableWord nbits w
    ∧ poll (s.withFetchWord nbits w) = .instruction

/-! ### Memory -/

/-- R48, R172, R178, R184: the device register that each I/O address reaches: the registers of a chip repeat through its
range. -/
def Sys2Proof.Spec.IoDecoded : Prop :=
  (∀ (k : Fin 16) (r : Fin 64), ioRegister (0xD000 + 0x40 * k + r) = .vic r)
  ∧ (∀ (k : Fin 32) (r : Fin 32), ioRegister (0xD400 + 0x20 * k + r) = .sid r)
  ∧ (∀ k : Fin 1024, ioRegister (0xD800 + k) = .colour k)
  ∧ (∀ (k : Fin 16) (r : Fin 16), ioRegister (0xDC00 + 0x10 * k + r) = .cia1 r)
  ∧ (∀ (k : Fin 16) (r : Fin 16), ioRegister (0xDD00 + 0x10 * k + r) = .cia2 r)
  ∧ (∀ k < 0x200, ioRegister (0xDE00 + k) = .expansion)

/-- R48: colour RAM: a write keeps the low 4 bits in its cell and reaches nothing else; a read returns the 4 bits. -/
def Sys2Proof.Spec.ColourCells (inp : Inputs) (d : Devices) (b : Byte) : Prop :=
  ∀ k : Fin 1024,
    let w := registerWrite d (.colour k) b
    (d.colourRam.wf 1024 = true → (w.colourRam.read k).toNat = b.toNat % 16
      ∧ (registerRead inp w (.colour k)).1.toNat % 16 = b.toNat % 16)
    ∧ (∀ j : Fin 1024, j ≠ k → w.colourRam.read j = d.colourRam.read j)
    ∧ w = { d with colourRam := w.colourRam }
    ∧ (registerRead inp d (.colour k)).1.toNat % 16 = (d.colourRam.read k).toNat % 16

/-- R172 to R174, R178, R184 to R186: a read of a chip's register returns the specified bits and changes no device but
for what reading a CIA's interrupt control clears and the count of free values; a write reaches that chip alone, and one
of the expansion areas nothing. -/
def Sys2Proof.Spec.RegistersAnswer (inp : Inputs) (d : Devices) (b : Byte) : Prop :=
  (∀ (r : Fin 64) bit, (vicReadMask r).getLsbD bit = true →
      (registerRead inp d (.vic r)).1.getLsbD bit = (vicReadValue d.vic r).getLsbD bit)
  ∧ (∀ (r : Fin 16) bit, (ciaReadMask .cia1 d.cia1 r).getLsbD bit = true →
      (registerRead inp d (.cia1 r)).1.getLsbD bit = (ciaReadValue .cia1 inp d.cia1 r).getLsbD bit)
  ∧ (∀ (r : Fin 16) bit, (ciaReadMask .cia2 d.cia2 r).getLsbD bit = true →
      (registerRead inp d (.cia2 r)).1.getLsbD bit = (ciaReadValue .cia2 inp d.cia2 r).getLsbD bit)
  ∧ (∀ r, let e := (registerRead inp d r).2
      e = { d with
        freeDraws := e.freeDraws
        cia1 := if r = .cia1 0xD then { d.cia1 with latch := 0 } else d.cia1
        cia2 := if r = .cia2 0xD then { d.cia2 with latch := 0 } else d.cia2 })
  ∧ (∀ r, registerWrite d (.vic r) b = { d with vic := vicWrite d.vic r b })
  ∧ (∀ r, registerWrite d (.sid r) b = { d with sid := sidWrite d.sid r b })
  ∧ (∀ r, registerWrite d (.cia1 r) b = { d with cia1 := ciaWrite d.cia1 r b })
  ∧ (∀ r, registerWrite d (.cia2 r) b = { d with cia2 := ciaWrite d.cia2 r b })
  ∧ registerWrite d .expansion b = d

/-- R172, R173: the VIC-II's registers: $D012 and bit 7 of $D011 read the raster line, a stored register reads back as
written in its specified bits, $D01A holds the interrupt enable, and $D02F to $D03F read $FF and ignore writes. Which bits
of $D016, $D018 and $D01A are unspecified is the model's choice (log entry 8). -/
def Sys2Proof.Spec.VicRegisters (v : Vic) (b : Byte) : Prop :=
  (vicReadValue v 0x12).toNat = v.rasterLine % 256
  ∧ ((vicReadValue v 0x11).getLsbD 7 = true ↔ v.rasterLine / 256 % 2 = 1)
  ∧ (∀ i < 7, (vicReadValue v 0x11).getLsbD i = (v.regs.read 0x11).getLsbD i)
  ∧ (v.regs.wf 64 = true → ∀ r < 0x2F, r ∉ [0x12, 0x13, 0x14, 0x19, 0x1E, 0x1F] →
      ∀ i, (vicReadMask r).getLsbD i = true → (r = 0x11 → i ≠ 7) →
      (vicReadValue (vicWrite v r b) r).getLsbD i = b.getLsbD i)
  ∧ (∀ r q, q ≠ r → q ≠ 0x19 → vicReadValue (vicWrite v r b) q = vicReadValue v q)
  ∧ (vicWrite v 0x1A b).enable.toNat = b.toNat % 16 ∧ (∀ r, r ≠ 0x1A → (vicWrite v r b).enable = v.enable)
  ∧ (∀ r, 0x2F ≤ r → vicReadValue v r = 0xFF ∧ vicReadMask r = 0xFF ∧ vicWrite v r b = v)
  ∧ (∀ r < 0x20, r ∉ [0x13, 0x14, 0x16, 0x18, 0x1A, 0x1E, 0x1F] → vicReadMask r = 0xFF)
  ∧ (∀ r, 0x20 ≤ r → r ≤ 0x2E → vicReadMask r = 0x0F)
  ∧ (∀ r ∈ [0x13, 0x14, 0x1E, 0x1F], vicReadMask r = 0x00)
  ∧ [0x16, 0x18, 0x1A].map vicReadMask = [0x1F, 0xFE, 0x0F]

/-- R34: a write to byte k of an external buffer is stored there, and every other byte of every buffer is as before. -/
def Sys2Proof.Spec.BufferStored (d e : Devices) (id k : Nat) (b : Byte) : Prop :=
  (id < d.buffers.length → k < (d.buffers.getD id []).length → bufferRead e.buffers id k = b)
  ∧ (∀ id' k', (id', k') ≠ (id, k) → bufferRead e.buffers id' k' = bufferRead d.buffers id' k')
  ∧ e = { d with buffers := e.buffers }

/-- R36, R37, R50, R34, R48: the two accesses: with no hook a write is read back and every other byte is as before, and
a read changes nothing; a hooked address is delegated and RAM is not consulted: a device register answers as its chip
does, and an external buffer reads back what was written to it. Which register an I/O address reaches is R48's map. -/
def Obligations.AccessesFollowHooks : Prop :=
  (∀ (s : State) (a : Word) (b : Byte),
    (hookAt s.hooks.readers a.toNat = none → s.memRead a = (s.ramByte a, s))
    ∧ (hookAt s.hooks.writers a.toNat = none → s.ram.wf ramSize = true →
        (s.memWrite a b).ramByte a = b ∧ (s.memWrite a b).dev = s.dev)
    ∧ RamSameBut [a] s (s.memWrite a b)
    ∧ (∀ r off, hookAt s.hooks.readers a.toNat = some (.register r, off) →
        s.memRead a = ((registerRead s.inputs s.dev r).1, s.withDev (registerRead s.inputs s.dev r).2))
    ∧ (∀ r off, hookAt s.hooks.writers a.toNat = some (.register r, off) →
        s.memWrite a b = s.withDev (registerWrite s.dev r b))
    ∧ (∀ id base off, hookAt s.hooks.readers a.toNat = some (.buffer id base, off) →
        s.memRead a = (bufferRead s.dev.buffers id (base + off), s))
    ∧ (∀ id base off, hookAt s.hooks.writers a.toNat = some (.buffer id base, off) →
        (s.memWrite a b).ram = s.ram ∧ BufferStored s.dev (s.memWrite a b).dev id (base + off) b))
  ∧ IoDecoded
  ∧ ∀ (inp : Inputs) (d : Devices) (b : Byte), ColourCells inp d b ∧ RegistersAnswer inp d b ∧ VicRegisters d.vic b

/-- R49: the banking configuration, and what the windows of the C64 read and write; the ROM images have R6's lengths. -/
def Obligations.BankSelection : Prop :=
  ∀ (s : State) (a : Word), s.hooks = c64Hooks →
    let port (k : Nat) : Bool := ((s.ramByte 1).getLsbD k && (s.ramByte 0).getLsbD k) || !(s.ramByte 0).getLsbD k
    let readsRam := s.memRead a = (s.ramByte a, s)
    let readsRom (image : List Byte) (length first : Nat) : Prop :=
      (s.memRead a).2 = s ∧ (image.length = length → image[a.toNat - first]? = some (s.memRead a).1)
    (0xA000 ≤ a.toNat → a.toNat < 0xC000 →
      if port 0 && port 1 then readsRom s.cfg.roms.basic 8192 0xA000 else readsRam)
    ∧ (0xE000 ≤ a.toNat → if port 1 then readsRom s.cfg.roms.kernal 8192 0xE000 else readsRam)
    ∧ (0xD000 ≤ a.toNat → a.toNat < 0xE000 → port 0 = false → port 1 = false → readsRam)
    ∧ (0xD000 ≤ a.toNat → a.toNat < 0xE000 → (port 0 || port 1) = true → port 2 = false →
      readsRom s.cfg.roms.chargen 4096 0xD000)
    ∧ (0xD000 ≤ a.toNat → a.toNat < 0xE000 → (port 0 || port 1) = true → port 2 = true →
      let r := ioRegister a.toNat
      s.memRead a = ((registerRead s.inputs s.dev r).1, s.withDev (registerRead s.inputs s.dev r).2)
      ∧ ∀ b, s.memWrite a b = s.withDev (registerWrite s.dev r b))
    ∧ (0xD000 ≤ a.toNat → a.toNat < 0xE000 → ((port 0 || port 1) && port 2) = false →
      ∀ b, s.memWrite a b = s.withRam (s.ram.write a.toNat b))
    ∧ ((a.toNat < 0xA000 ∨ (0xC000 ≤ a.toNat ∧ a.toNat < 0xD000)) → readsRam)
    ∧ ((a.toNat < 0xD000 ∨ 0xE000 ≤ a.toNat) → ∀ b, s.memWrite a b = s.withRam (s.ram.write a.toNat b))

/-! ### Devices -/

/-- R169, R6: the visible-area constants of each variant: the figure supplied for it, else the open one of that variant;
and the two that derive from them. -/
def Sys2Proof.Spec.VisibleAreas (c : Config) : Prop :=
  ∀ m ∈ [(VicModel.pal, PerVicModel.pal), (.ntsc, PerVicModel.ntsc), (.ntscOld, PerVicModel.ntscOld)],
    let area := visibleAreaOf c m.1
    area.linesVisible = (match m.2 c.linesVisible with | some n => n | none => Config.openLinesVisible m.1)
    ∧ area.pixelsPerLine = (match m.2 c.pixelsPerLine with | some n => n | none => Config.openPixelsPerLine m.1)
    ∧ area.pixelsPerLineVisible
        = (match m.2 c.pixelsPerLineVisible with | some n => n | none => Config.openPixelsPerLineVisible m.1)
    ∧ hBlankPixels area + area.pixelsPerLineVisible = area.pixelsPerLine
    ∧ vBlankLines (timingOf c m.1) area + area.linesVisible = (timingOf c m.1).lines

/-- R169, R170: the constants of each variant; an advance is that many cycles after `frame_complete` is cleared; after n
cycles the raster position, counted in cycles from the frame's start, has moved on by n modulo the cycles of a frame,
`frame_complete` says whether the frame wrapped on the way, and no register, compare value or enable has changed. -/
def Obligations.RasterPosition : Prop :=
  (∀ c : Config, timingOf c .pal = ⟨63, 312⟩ ∧ timingOf c .ntsc = ⟨64, 262⟩
    ∧ (∀ t, c.ntscOldTiming = some t → timingOf c .ntscOld = t)
    ∧ cyclesPerFrame (timingOf c .pal) = 19656 ∧ cyclesPerFrame (timingOf c .ntsc) = 16768
    ∧ VisibleAreas c)
  ∧ (∀ (t : Timing) (v : Vic) (n : Nat), vicAdvance t 0 v = { v with frameComplete := false }
    ∧ vicAdvance t (n + 1) v = vicTick t (vicAdvance t n v))
  ∧ ∀ (t : Timing) (v : Vic) (n : Nat), v.InFrame t →
    let w := vicAdvance t n v
    w.rasterLine * t.cyclesPerLine + w.cycleInLine
      = (v.rasterLine * t.cyclesPerLine + v.cycleInLine + n) % (t.cyclesPerLine * t.lines)
    ∧ w.InFrame t
    ∧ (w.frameComplete = true
        ↔ t.cyclesPerLine * t.lines ≤ v.rasterLine * t.cyclesPerLine + v.cycleInLine + n)
    ∧ w.regs = v.regs ∧ w.compare = v.compare ∧ w.enable = v.enable

/-- R174: the raster latch is set when the compare line is entered, and by nothing else in an advance; writing 1s to
$D019 clears latch bits, and a compare written to the current line does not set it. -/
def Obligations.RasterInterrupt : Prop :=
  (∀ (t : Timing) (v : Vic), v.InFrame t →
    ((vicTick t v).latch.getLsbD 0 = true ↔ v.latch.getLsbD 0 = true
      ∨ (v.cycleInLine + 1 = t.cyclesPerLine ∧ (v.rasterLine + 1) % t.lines = v.compare.toNat)))
  ∧ (∀ (v : Vic) (b : Byte) (k : Nat), k < 4 →
      (vicWrite v 0x19 b).latch.getLsbD k = (v.latch.getLsbD k && !b.getLsbD k))
  ∧ (∀ (v : Vic) (b : Byte), (vicWrite v 0x12 b).latch = v.latch ∧ (vicWrite v 0x11 b).latch = v.latch
      ∧ (vicWrite v 0x12 b).compare.toNat = v.compare.toNat / 256 * 256 + b.toNat
      ∧ (vicWrite v 0x11 b).compare.toNat = v.compare.toNat % 256 + (if b.getLsbD 7 then 256 else 0))
  ∧ (∀ v : Vic, (vicIrqOut v = true ↔ ∃ k < 4, v.latch.getLsbD k = true ∧ v.enable.getLsbD k = true)
      ∧ (vicReadValue v 0x19).toNat = v.latch.toNat + 0x70 + (if vicIrqOut v then 0x80 else 0))

/-- Timer A (0) or timer B (1) of a CIA. -/
def Sys2Proof.Spec.timerOf (c : Cia) (k : Nat) : CiaTimer := if k = 0 then c.timerA else c.timerB

/-- R185: what cycles do to timer k. Started, it counts down and sets no latch bit until the cycle after 0; there it
reloads and sets its latch bit, in continuous mode again every latch + 1 cycles, in one-shot mode once, START being
cleared. Stopped, it stands. -/
def Sys2Proof.Spec.TimerCounts (c : Cia) (k : Nat) : Prop :=
  let t := timerOf c k
  (timerStarted t = true → ∀ n ≤ t.counter.toNat,
      let u := timerOf (ciaAdvance n c) k
      u.counter.toNat = t.counter.toNat - n ∧ u.latch = t.latch ∧ u.control = t.control
      ∧ (ciaAdvance n c).latch.getLsbD k = c.latch.getLsbD k)
  ∧ (timerStarted t = true → timerOneShot t = false → ∀ j,
      let n := t.counter.toNat + 1 + j * (t.latch.toNat + 1)
      timerOf (ciaAdvance n c) k = { t with counter := t.latch } ∧ (ciaAdvance n c).latch.getLsbD k = true)
  ∧ (timerStarted t = true → timerOneShot t = true → ∀ n, t.counter.toNat < n →
      let u := timerOf (ciaAdvance n c) k
      u.counter = t.latch ∧ u.latch = t.latch ∧ u.control.getLsbD 0 = false
      ∧ (∀ i, 0 < i → u.control.getLsbD i = t.control.getLsbD i) ∧ (ciaAdvance n c).latch.getLsbD k = true)
  ∧ (timerStarted t = false → ∀ n,
      timerOf (ciaAdvance n c) k = t ∧ (ciaAdvance n c).latch.getLsbD k = c.latch.getLsbD k)

/-- R185, R184: what writes of timer k's registers do, and what reads return: a low or high byte sets that byte of the
latch, the high byte loading a stopped counter; a control write with bit 4 loads the counter, and bit 4 is not stored. -/
def Sys2Proof.Spec.TimerRegisters (c : Cia) (k : Nat) (b : Byte) : Prop :=
  let t := timerOf c k
  (let u := timerOf (ciaWrite c (4 + 2 * k) b) k;
    u.latch.toNat = t.latch.toNat / 256 * 256 + b.toNat ∧ u.counter = t.counter ∧ u.control = t.control)
  ∧ (let u := timerOf (ciaWrite c (5 + 2 * k) b) k;
    u.latch.toNat = b.toNat * 256 + t.latch.toNat % 256 ∧ u.control = t.control
    ∧ u.counter = if timerStarted t then t.counter else u.latch)
  ∧ (let u := timerOf (ciaWrite c (0xE + k) b) k;
    u.latch = t.latch ∧ (u.counter = if b.getLsbD 4 then t.latch else t.counter)
    ∧ ∀ i, u.control.getLsbD i = (b.getLsbD i && i != 4))
  ∧ (∀ reg ∈ [4 + 2 * k, 5 + 2 * k, 0xE + k],
      let e := ciaWrite c reg b
      timerOf e (1 - k) = timerOf c (1 - k) ∧ e = { c with timerA := e.timerA, timerB := e.timerB })
  ∧ (∀ id inp, (ciaReadValue id inp c (4 + 2 * k)).toNat = t.counter.toNat % 256
      ∧ (ciaReadValue id inp c (5 + 2 * k)).toNat = t.counter.toNat / 256)

/-- R184: the ports, the data-direction and the control registers of a CIA: what a write stores and a read returns; the
time-of-day and serial registers ignore writes and have no specified bit; an advance reaches the timers and the interrupt
latch bits 0 and 1 alone. That CIA 2's port reads its output bits as written, its input bits being unspecified, is the
model's choice (log entry 8); CIA 1's port reads are those of R187 (`KeyboardScan`). -/
def Sys2Proof.Spec.CiaRegisters (c : Cia) (b : Byte) : Prop :=
  ciaWrite c 0 b = { c with pra := b } ∧ ciaWrite c 1 b = { c with prb := b }
  ∧ ciaWrite c 2 b = { c with ddra := b } ∧ ciaWrite c 3 b = { c with ddrb := b }
  ∧ (∀ id inp, ciaReadValue id inp c 2 = c.ddra ∧ ciaReadValue id inp c 3 = c.ddrb
      ∧ ciaReadValue id inp c 0xE = c.timerA.control ∧ ciaReadValue id inp c 0xF = c.timerB.control)
  ∧ (∀ inp, ciaReadValue .cia2 inp c 0 = c.pra ∧ ciaReadValue .cia2 inp c 1 = c.prb)
  ∧ ciaReadMask .cia2 c 0 = c.ddra ∧ ciaReadMask .cia2 c 1 = c.ddrb
  ∧ (∀ id r, 8 ≤ r → r ≤ 0xC → ciaReadMask id c r = 0x00 ∧ ciaWrite c r b = c)
  ∧ (∀ r, r < 8 ∨ 0xC < r → ciaReadMask .cia1 c r = 0xFF ∧ (2 ≤ r → ciaReadMask .cia2 c r = 0xFF))
  ∧ (∀ n, let e := ciaAdvance n c
      e = { c with timerA := e.timerA, timerB := e.timerB, latch := e.latch }
      ∧ ∀ i, 2 ≤ i → e.latch.getLsbD i = c.latch.getLsbD i)

/-- R185, R184: timer A and timer B: counting, underflow in continuous and one-shot mode, and the register accesses; and
the other registers of a CIA. -/
def Obligations.TimerPeriod : Prop :=
  (∀ (c : Cia) (k : Nat) (b : Byte), k < 2 → TimerCounts c k ∧ TimerRegisters c k b)
  ∧ ∀ (c : Cia) (b : Byte), CiaRegisters c b

/-- R186: reading the interrupt control register returns the latch with `irq_out` in bit 7, and clears the latch and
`irq_out`; writing it sets or clears mask bits by bit 7. -/
def Obligations.InterruptControl : Prop :=
  ∀ (c : Cia) (inp : Inputs) (id : CiaId) (b : Byte),
    (ciaReadValue id inp c 0xD).toNat = c.latch.toNat + (if ciaIrqOut c then 128 else 0)
    ∧ (ciaAfterRead c 0xD).latch = 0 ∧ ciaIrqOut (ciaAfterRead c 0xD) = false
    ∧ (ciaIrqOut c = true ↔ ∃ k < 5, c.latch.getLsbD k = true ∧ c.mask.getLsbD k = true)
    ∧ (∀ k < 5, (ciaWrite c 0xD b).mask.getLsbD k
        = if b.getLsbD k then b.getLsbD 7 else c.mask.getLsbD k)
    ∧ (ciaWrite c 0xD b).latch = c.latch

/-- Voice 0, 1 or 2 of the SID. -/
def Sys2Proof.Spec.voiceOf (s : Sid) (k : Nat) : Voice := if k = 0 then s.voice0 else if k = 1 then s.voice1 else s.voice2

/-- R182: the command of a voice u is of the kind, with u's values and the gain of the volume. -/
def Sys2Proof.Spec.Commanded (u : Voice) (kind : CommandKind) (volume : Byte) : Prop :=
  u.lastCommand = ⟨kind, u.freq, u.pw, ((volume.toNat % 16 : Nat) : Rat) / 15, voiceAttackMs u, voiceDecayMs u,
    voiceReleaseMs u⟩

/-- R178, R182: the seven registers of voice k at 7k: what each stores, and its command. -/
def Sys2Proof.Spec.VoiceRegisters (s : Sid) (k : Nat) (b : Byte) : Prop :=
  let v := voiceOf s k
  let u (r : Nat) := voiceOf (sidWrite s (7 * k + r) b) k
  (u 0).freq.toNat = v.freq.toNat / 256 * 256 + b.toNat ∧ (u 1).freq.toNat = b.toNat * 256 + v.freq.toNat % 256
  ∧ (u 2).pw.toNat = v.pw.toNat / 256 * 256 + b.toNat ∧ (u 3).pw.toNat = b.toNat % 16 * 256 + v.pw.toNat % 256
  ∧ (∀ r ∈ [0, 1], u r = { v with freq := (u r).freq, lastCommand := (u r).lastCommand }
      ∧ Commanded (u r) .changeFrequency s.modeVolume)
  ∧ (∀ r ∈ [2, 3], u r = { v with pw := (u r).pw, lastCommand := (u r).lastCommand }
      ∧ Commanded (u r) .changePulseWidth s.modeVolume)
  ∧ u 4 = voiceWrite s.modeVolume v 4 b ∧ Commanded (u 4) (u 4).lastCommand.kind s.modeVolume
  ∧ u 5 = { v with ad := b, lastCommand := (u 5).lastCommand } ∧ Commanded (u 5) .none s.modeVolume
  ∧ u 6 = { v with sr := b, lastCommand := (u 6).lastCommand } ∧ Commanded (u 6) .none s.modeVolume
  ∧ (∀ r < 7, let w := sidWrite s (7 * k + r) b
      w = { s with voice0 := w.voice0, voice1 := w.voice1, voice2 := w.voice2 }
      ∧ ∀ j < 3, j ≠ k → voiceOf w j = voiceOf s j)

/-- R178, R182: the other registers: the volume, with ChangeVolume; the filter's three, stored, with None; the read-only
and unused ones, which a write does not reach. That the command of such a write is each voice's is the model's choice
(log entry 9). -/
def Sys2Proof.Spec.GlobalRegisters (s : Sid) (b : Byte) : Prop :=
  let w := sidWrite s
  let onlyCommands (kind : CommandKind) (t : Sid) : Prop := ∀ k < 3,
    voiceOf t k = { voiceOf s k with lastCommand := (voiceOf t k).lastCommand } ∧ Commanded (voiceOf t k) kind t.modeVolume
  ((w 0x18 b).modeVolume = b ∧ onlyCommands .changeVolume (w 0x18 b))
  ∧ ((w 0x15 b).cutoffLo = b ∧ (w 0x16 b).cutoffHi = b ∧ (w 0x17 b).resonance = b)
  ∧ (∀ r ∈ [0x15, 0x16, 0x17], (w r b).modeVolume = s.modeVolume ∧ onlyCommands .none (w r b))
  ∧ (∀ r ∈ [0x15, 0x16, 0x17, 0x18], (r ≠ 0x15 → (w r b).cutoffLo = s.cutoffLo)
      ∧ (r ≠ 0x16 → (w r b).cutoffHi = s.cutoffHi) ∧ (r ≠ 0x17 → (w r b).resonance = s.resonance))
  ∧ (∀ r, 0x19 ≤ r → w r b = s)

/-- R179: what a write of a voice's control register does to its phase and level, and the command it gives; R178, R182:
what every other register of the SID stores, and its command. -/
def Obligations.GateMovesPhase : Prop :=
  (∀ (s : Sid) (b : Byte), (∀ k < 3, VoiceRegisters s k b) ∧ GlobalRegisters s b)
  ∧ ∀ (mv : Byte) (v : Voice) (w : Byte),
    let u := voiceWrite mv v 4 w
    u.control = w
    ∧ (w.toNat / 16 = 0 → u.phase = .idle ∧ u.level = 0 ∧ u.lastCommand.kind = .stop)
    ∧ (w.toNat / 16 ≠ 0 → u.level = v.level)
    ∧ (w.toNat / 16 ≠ 0 → w.getLsbD 0 = true → v.control.getLsbD 0 = false →
        u.phase = .attack ∧ u.lastCommand.kind = .startADS)
    ∧ (w.toNat / 16 ≠ 0 → w.getLsbD 0 = false → v.control.getLsbD 0 = true →
        v.phase = .attack ∨ v.phase = .decay ∨ v.phase = .sustain →
        u.phase = .release ∧ u.lastCommand.kind = .startRelease)
    ∧ (w.toNat / 16 ≠ 0 → w.getLsbD 0 = v.control.getLsbD 0 → u.phase = v.phase ∧ u.lastCommand.kind = .none)
    ∧ (w.toNat / 16 ≠ 0 → w.getLsbD 0 = false → v.phase = .idle ∨ v.phase = .release →
        u.phase = v.phase ∧ u.lastCommand.kind = .none)

/-- R180, R178: the durations of a voice, in milliseconds, by the codes of its registers. -/
def Sys2Proof.Spec.DurationsTabled (v : Voice) : Prop :=
  let attack := [2, 8, 16, 24, 38, 56, 68, 80, 100, 250, 500, 800, 1000, 3000, 5000, 8000]
  let decay := [6, 24, 48, 72, 114, 168, 204, 240, 300, 750, 1500, 2400, 3000, 9000, 15000, 24000]
  attack[v.ad.toNat / 16]? = some (voiceAttackMs v) ∧ decay[v.ad.toNat % 16]? = some (voiceDecayMs v)
  ∧ decay[v.sr.toNat % 16]? = some (voiceReleaseMs v)

/-- R181, R179: the envelope after n cycles, `ms` being n cycles in milliseconds: linear ramps that end at 1, at the
sustain level and at 0, each end moving the phase on; Sustain and Idle hold. The durations are R180's, the clock rate is
the one supplied, and an advance of the SID is that of its three voices. That the rate is positive where 0 or nothing is
supplied too is the model's choice (log entry 11). -/
def Obligations.EnvelopeRamps : Prop :=
  (∀ (c : Config) (n : Nat) (s : Sid), sidAdvance c n s = { s with
      voice0 := voiceAdvance (cyclesToMs c n) s.voice0
      voice1 := voiceAdvance (cyclesToMs c n) s.voice1
      voice2 := voiceAdvance (cyclesToMs c n) s.voice2 })
  ∧ (∀ c : Config, 0 < sidClockHz c ∧ ∀ hz, 0 < hz → c.sidClockHz = some hz → sidClockHz c = hz)
  ∧ (∀ v : Voice, DurationsTabled v)
  ∧ ∀ (c : Config) (n : Nat) (v : Voice),
    let ms : Rat := n / sidClockHz c * 1000
    let u := voiceAdvance (cyclesToMs c n) v
    let up := v.level + ms / voiceAttackMs v
    let down := v.level - ms / voiceDecayMs v
    let out := v.level - ms / voiceReleaseMs v
    let sus : Rat := ((v.sr.toNat / 16 : Nat) : Rat) / 15
    (v.phase = .attack → u.level = min 1 up ∧ u.phase = if 1 ≤ up then .decay else .attack)
    ∧ (v.phase = .decay → u.level = max sus down
        ∧ u.phase = if down ≤ sus then .sustain else .decay)
    ∧ (v.phase = .sustain → u.level = v.level ∧ u.phase = .sustain)
    ∧ (v.phase = .release → u.level = max 0 out ∧ u.phase = if out ≤ 0 then .idle else .release)
    ∧ (v.phase = .idle → u.level = 0 ∧ u.phase = .idle)

/-- R187: a row bit of CIA 1 port B is 0 exactly when a key of the row in a column selected by a 0 in port A is
pressed, or, in bits 4-0, the switch of joystick 1 is closed; port A reads as written, less joystick 2's switches. That a
1 in a joystick's state is a closed switch, of the port's same bit, is the model's choice (log entry 16). -/
def Obligations.KeyboardScan : Prop :=
  ∀ (c : Cia) (inp : Inputs) (r : Nat), r < 8 →
    ((ciaReadValue .cia1 inp c 1).getLsbD r = false
      ↔ (∃ col < 8, c.pra.getLsbD col = false ∧ (col, r) ∈ inp.keys) ∨ inp.joystick1.getLsbD r = true)
    ∧ ((ciaReadValue .cia1 inp c 0).getLsbD r = (c.pra.getLsbD r && !inp.joystick2.getLsbD r))

/-- R175: a register write is shown from its issuing raster line onward and never before it. -/
def Obligations.RasterEffectsNeverRetroactive : Prop :=
  ∀ (v : Vic) (reg line : Nat) (b : Byte), vicWriteIgnored reg = false → reg ≠ 0x19 →
    (line < v.rasterLine → frameRegOnLine (vicWrite v reg b).frame reg line = frameRegOnLine v.frame reg line)
    ∧ (v.rasterLine ≤ line → frameRegOnLine (vicWrite v reg b).frame reg line = b)

/-! ### Reset, host and run loop -/

/-- R190, R31: RESET: the register values, PC from the vector, and memory unchanged; where the vector's cells are plain
RAM no device changes either. -/
def Obligations.ResetValues : Prop :=
  ∀ s : State,
    let t := s.applyReset
    t.a = 0x00 ∧ t.x = 0x00 ∧ t.y = 0x00 ∧ t.sp = 0xFD ∧ t.p.toByte = 0x24 ∧ t.nmiPending = false
    ∧ t.totalCycles = 0 ∧ t.instructionsExecuted = 0 ∧ t.runStatus = .running
    ∧ t.pc = (s.read16 0xFFFC).1 ∧ RamSameBut [] s t
    ∧ (Plain s 0xFFFC → Plain s 0xFFFD →
        t.pc.toNat = (s.ramByte 0xFFFD).toNat * 256 + (s.ramByte 0xFFFC).toNat ∧ t.dev = s.dev)

/-- R161: the run status that a system step leaves is the first stop condition that holds after it, in the rule's order:
an unknown opcode under `Stop`, BRK executed, the budgets, an evaluator. `c` is the state after the CPU step and `u` the
one after the catch-up. That an evaluator's reason type gives the stop reason of the same name is the model's choice (log
entry 12). -/
def Obligations.StopOrder : Prop :=
  ∀ s c : State, s.runStatus = .running → cpuStep s = .next c →
    let u := c.catchUp
    let e := evaluate u
    let brk := poll s = .instruction ∧ (fetchInstr s).instr = .brk ∧ s.cfg.stopOnBrk = true
    let instrs := ∃ n, s.cfg.maxInstructions = some n ∧ n ≤ u.instructionsExecuted - s.run.startInstructions
    let cycles := ∃ n, s.cfg.maxCycles = some n ∧ n ≤ u.totalCycles - s.run.startCycles
    ∃ t, step s = .next t ∧ t.lastTrigger = e
    ∧ (∀ r, c.runStatus = .stopped r → t.runStatus = .stopped r)
    ∧ (c.runStatus = .running → brk → t.runStatus = .stopped .brk)
    ∧ (c.runStatus = .running → ¬brk → instrs → t.runStatus = .stopped .instructionLimit)
    ∧ (c.runStatus = .running → ¬brk → ¬instrs → cycles → t.runStatus = .stopped .cycleLimit)
    ∧ (c.runStatus = .running → ¬brk → ¬instrs → ¬cycles → e.triggered = true →
        t.runStatus = .stopped (reasonOf e.reasonType))
    ∧ (c.runStatus = .running → ¬brk → ¬instrs → ¬cycles → e.triggered = false → t.runStatus = .running)

/-- R163, R162: after a step, an enabled breakpoint at PC triggers, with reason DebugBreakPoint; without one the answer
is that of the first evaluator of the list that triggers, or that none does. -/
def Obligations.BreakpointTriggers : Prop :=
  ∀ s : State,
    (∀ before after, s.cfg.breakpoints = before ++ (s.pc, true) :: after → (∀ b ∈ before, b.1 ≠ s.pc) →
      (evaluate s).triggered = true ∧ (evaluate s).reasonType = .debugBreakPoint)
    ∧ ((∀ b ∈ s.cfg.breakpoints, b.1 = s.pc → b.2 = false) →
        (∀ before e after, s.cfg.evaluators = before ++ e :: after → (∀ f ∈ before, predHolds s f.pred = false) →
          predHolds s e.pred = true → evaluate s = ⟨true, e.reason, e.description⟩)
        ∧ ((∀ e ∈ s.cfg.evaluators, predHolds s e.pred = false) → (evaluate s).triggered = false))

/-- R195: loading a buffer with a header: where every address is plain RAM, byte k of the data is at the load address
plus k modulo 65536, for up to 65536 bytes, and the report gives the address and the length (of the data after the
header: the model's choice, log entry 18). -/
def Obligations.LoaderPlacesBytes : Prop :=
  ∀ (s t : State) (r : LoadReport) (b0 b1 : Byte) (data : List Byte), s.ram.wf ramSize = true →
    s.hooks.writers = [] → data.length ≤ 65536 → s.loadWithHeader (b0 :: b1 :: data) = some (t, r) →
    r.loadedAtAddress.toNat = b1.toNat * 256 + b0.toNat ∧ r.fileLength = data.length
    ∧ (∀ k, k < data.length → some (t.ramByte (r.loadedAtAddress + BitVec.ofNat 16 k)) = data[k]?)
    ∧ t.pc = s.pc ∧ t.a = s.a ∧ t.x = s.x ∧ t.y = s.y ∧ t.sp = s.sp ∧ t.p = s.p
end

