-- ==== Sys2Proof/Laws/Bits.lean ====
section
/-! SUPPORT. The bit-field and byte-order helpers as numbers, and that taking a word apart and joining it are inverse. -/

namespace Sys2Proof

theorem toNat_lo (w : Word) : (lo w).toNat = w.toNat % 256 := by simp [lo]

theorem toNat_hi (w : Word) : (hi w).toNat = w.toNat / 256 := by
  have := w.isLt
  simp only [hi, BitVec.extractLsb'_toNat, Nat.shiftRight_eq_div_pow]
  omega

theorem toNat_cat (h l : Byte) : (cat h l).toNat = h.toNat * 256 + l.toNat := by
  have := l.isLt
  rw [cat, BitVec.toNat_append, Nat.shiftLeft_eq, ← Nat.shiftLeft_eq, ← Nat.shiftLeft_add_eq_or_of_lt this, Nat.shiftLeft_eq]

theorem toNat_zext16 (b : Byte) : (zext16 b).toNat = b.toNat := by
  have := b.isLt
  simp only [zext16, BitVec.toNat_setWidth]
  omega

theorem cat_eq_ofNat (h l : Byte) : cat h l = BitVec.ofNat 16 (h.toNat * 256 + l.toNat) := by
  rw [← toNat_cat, BitVec.ofNat_toNat, BitVec.setWidth_eq]

@[simp] theorem hi_cat (h l : Byte) : hi (cat h l) = h := by
  apply BitVec.eq_of_toNat_eq
  have := l.isLt
  rw [toNat_hi, toNat_cat]
  omega

@[simp] theorem lo_cat (h l : Byte) : lo (cat h l) = l := by
  apply BitVec.eq_of_toNat_eq
  have := l.isLt
  rw [toNat_lo, toNat_cat]
  omega

@[simp] theorem cat_hi_lo (w : Word) : cat (hi w) (lo w) = w := by
  apply BitVec.eq_of_toNat_eq
  rw [toNat_cat, toNat_hi, toNat_lo]
  omega

theorem hi_eq_ofNat (w : Word) : hi w = BitVec.ofNat 8 (w.toNat / 256) := by
  rw [← toNat_hi, BitVec.ofNat_toNat, BitVec.setWidth_eq]

theorem lo_eq_ofNat (w : Word) : lo w = BitVec.ofNat 8 w.toNat := by
  apply BitVec.eq_of_toNat_eq
  simp [toNat_lo]

/-- R20: the test for zero, as a number. -/
theorem beq_zero_eq (v : Byte) : (v == 0) = decide (v.toNat = 0) := by
  rw [Bool.eq_iff_iff]
  simp [BitVec.toNat_eq]

namespace Machine

/-- R14: a stack address, as a number. -/
theorem toNat_stackAddr (sp : Byte) : (stackAddr sp).toNat = 0x100 + sp.toNat := by
  have := sp.isLt
  rw [stackAddr, BitVec.toNat_add, toNat_zext16, Nat.mod_eq_of_lt] <;> simp <;> omega

theorem stackAddr_injective {a b : Byte} (h : stackAddr a = stackAddr b) : a = b := by
  have := congrArg BitVec.toNat h
  rw [toNat_stackAddr, toNat_stackAddr] at this
  exact BitVec.eq_of_toNat_eq (by omega)

/-- R17: the flags of a pulled push image are the flags pushed. -/
@[simp] theorem statusOfByte_pushImageSW (p : Status) : statusOfByte (pushImageSW p) = p := by
  obtain ⟨n, v, d, i, z, c⟩ := p
  cases n <;> cases v <;> cases d <;> cases i <;> cases z <;> cases c <;> rfl

@[simp] theorem statusOfByte_pushImageHW (p : Status) : statusOfByte (pushImageHW p) = p := by
  obtain ⟨n, v, d, i, z, c⟩ := p
  cases n <;> cases v <;> cases d <;> cases i <;> cases z <;> cases c <;> rfl

/-- R18: the image that an interrupt pushes is P itself as a byte. -/
theorem pushImageHW_eq (p : Status) : pushImageHW p = p.toByte := by
  obtain ⟨n, v, d, i, z, c⟩ := p
  cases n <;> cases v <;> cases d <;> cases i <;> cases z <;> cases c <;> rfl

end Machine

end Sys2Proof
end

