-- ==== Sys2Proof/Laws/Memory.lean ====
section
/-! SUPPORT. The laws of byte storage: a read after a write, and that every operation keeps the canonical form. -/

namespace Sys2Proof.Machine

@[simp] theorem Mem.read_nil (a : Nat) : Mem.read [] a = Mem.blank := rfl

theorem Mem.read_cons (k a : Nat) (v : Byte) (m : Mem) :
    Mem.read ((k, v) :: m) a = if k = a then v else Mem.read m a := rfl

/-- Storage whose addresses all lie at or past `low` reads blank below it. -/
theorem Mem.read_below {limit low a : Nat} {m : Mem} (h : Mem.wfFrom limit low m = true) (ha : a < low) :
    Mem.read m a = Mem.blank := by
  induction m generalizing low with
  | nil => rfl
  | cons c m ih =>
    obtain ⟨k, v⟩ := c
    simp only [Mem.wfFrom, Bool.and_eq_true, decide_eq_true_eq] at h
    rw [Mem.read_cons, if_neg (by omega)]
    exact ih h.2 (by omega)

theorem Mem.wfFrom_mono {limit low low' : Nat} {m : Mem} (h : Mem.wfFrom limit low m = true) (hl : low' ≤ low) :
    Mem.wfFrom limit low' m = true := by
  cases m with
  | nil => rfl
  | cons c m =>
    obtain ⟨k, v⟩ := c
    simp only [Mem.wfFrom, Bool.and_eq_true, decide_eq_true_eq] at h ⊢
    exact ⟨⟨⟨by omega, h.1.1.2⟩, h.1.2⟩, h.2⟩

theorem Mem.wfFrom_consByte {limit low k : Nat} {v : Byte} {m : Mem} (h : Mem.wfFrom limit (k + 1) m = true)
    (hl : low ≤ k) (hk : k < limit) : Mem.wfFrom limit low (Mem.cons k v m) = true := by
  unfold Mem.cons
  split
  · exact Mem.wfFrom_mono h (by omega)
  · rename_i hv
    simp [Mem.wfFrom, hl, hk, hv, h]

/-- A write keeps the canonical form. -/
theorem Mem.wfFrom_write {limit low a : Nat} {m : Mem} (v : Byte) (h : Mem.wfFrom limit low m = true)
    (hl : low ≤ a) (ha : a < limit) : Mem.wfFrom limit low (Mem.write m a v) = true := by
  induction m generalizing low with
  | nil => exact Mem.wfFrom_consByte rfl hl ha
  | cons c m ih =>
    obtain ⟨k, w⟩ := c
    have h' := h
    simp only [Mem.wfFrom, Bool.and_eq_true, decide_eq_true_eq] at h'
    unfold Mem.write
    split
    · rename_i hlt
      refine Mem.wfFrom_consByte ?_ hl ha
      simp only [Mem.wfFrom, Bool.and_eq_true, decide_eq_true_eq]
      exact ⟨⟨⟨by omega, h'.1.1.2⟩, h'.1.2⟩, h'.2⟩
    · split
      · rename_i he
        subst he
        exact Mem.wfFrom_consByte h'.2 hl ha
      · simp only [Mem.wfFrom, Bool.and_eq_true, decide_eq_true_eq]
        exact ⟨h'.1, ih h'.2 (by omega)⟩

theorem Mem.wf_write {limit a : Nat} {m : Mem} (v : Byte) (h : m.wf limit = true) (ha : a < limit) :
    (m.write a v).wf limit = true :=
  Mem.wfFrom_write v h (Nat.zero_le a) ha

theorem Mem.read_consByte {limit k a : Nat} {v : Byte} {m : Mem} (h : Mem.wfFrom limit (k + 1) m = true) :
    Mem.read (Mem.cons k v m) a = if k = a then v else Mem.read m a := by
  unfold Mem.cons
  split
  · rename_i hv
    split
    · rename_i hk
      rw [hv, Mem.read_below h (by omega)]
    · rfl
  · rfl

theorem Mem.read_writeFrom {limit low a b : Nat} {m : Mem} (v : Byte) (h : Mem.wfFrom limit low m = true) :
    Mem.read (Mem.write m a v) b = if a = b then v else Mem.read m b := by
  induction m generalizing low with
  | nil => exact Mem.read_consByte (limit := limit) rfl
  | cons c m ih =>
    obtain ⟨k, w⟩ := c
    have h' := h
    simp only [Mem.wfFrom, Bool.and_eq_true, decide_eq_true_eq] at h'
    unfold Mem.write
    split
    · refine Mem.read_consByte (limit := limit) ?_
      simp only [Mem.wfFrom, Bool.and_eq_true, decide_eq_true_eq]
      exact ⟨⟨⟨by omega, h'.1.1.2⟩, h'.1.2⟩, h'.2⟩
    · split
      · rename_i he
        subst he
        rw [Mem.read_consByte h'.2, Mem.read_cons]
        split <;> simp_all
      · rename_i hne
        simp only [Mem.read_cons]
        rw [ih h'.2]
        split <;> split <;> simp_all

/-- Reading the address written gives the byte written. -/
theorem Mem.read_write_same {limit a : Nat} {m : Mem} (v : Byte) (h : m.wf limit = true) :
    (m.write a v).read a = v := by
  rw [Mem.read_writeFrom v h, if_pos rfl]

/-- A write leaves every other address alone; this holds of any storage. -/
theorem Mem.read_write_other {a b : Nat} (m : Mem) (v : Byte) (hab : a ≠ b) : (m.write a v).read b = m.read b := by
  induction m with
  | nil =>
    unfold Mem.write Mem.cons
    split
    · rfl
    · rw [Mem.read_cons, if_neg hab]
  | cons c m ih =>
    obtain ⟨k, w⟩ := c
    unfold Mem.write
    split
    · unfold Mem.cons
      split
      · rfl
      · rw [Mem.read_cons, if_neg hab]
    · split
      · rename_i he
        unfold Mem.cons
        split
        · rw [Mem.read_cons, if_neg (by omega)]
        · rw [Mem.read_cons, if_neg hab, Mem.read_cons, if_neg (by omega)]
      · rw [Mem.read_cons, Mem.read_cons, ih]

theorem Mem.wf_nil (limit : Nat) : Mem.wf limit [] = true := rfl

/-- The storage of any list of pairs is canonical. -/
theorem Mem.wf_ofCells (limit : Nat) (cells : List Host.Cell) : (Mem.ofCells limit cells).wf limit = true := by
  unfold Mem.ofCells
  suffices h : ∀ (cs : List Host.Cell) (m : Mem), m.wf limit = true →
      (cs.foldl (fun m c => if c.1 < limit then Mem.write m c.1 c.2 else m) m).wf limit = true from
    h cells [] rfl
  intro cs
  induction cs with
  | nil => exact fun m h => h
  | cons c cs ih =>
    intro m h
    simp only [List.foldl_cons]
    split
    · rename_i hc
      exact ih _ (Mem.wf_write _ h hc)
    · exact ih _ h

end Sys2Proof.Machine
end

