-- ==== Sys2Proof/Laws/State.lean ====
section
/-! SUPPORT. One lemma per field per named update of the state, each true by rfl, so that no proof unfolds a record
update. -/

namespace Sys2Proof.Machine

section
variable (s : State) (v : Byte)
@[simp] theorem State.setA_cfg : (s.setA v).cfg = s.cfg := rfl
@[simp] theorem State.setA_a : (s.setA v).a = v := rfl
@[simp] theorem State.setA_x : (s.setA v).x = s.x := rfl
@[simp] theorem State.setA_y : (s.setA v).y = s.y := rfl
@[simp] theorem State.setA_sp : (s.setA v).sp = s.sp := rfl
@[simp] theorem State.setA_pc : (s.setA v).pc = s.pc := rfl
@[simp] theorem State.setA_p : (s.setA v).p = s.p := rfl
@[simp] theorem State.setA_nmiLine : (s.setA v).nmiLine = s.nmiLine := rfl
@[simp] theorem State.setA_nmiPending : (s.setA v).nmiPending = s.nmiPending := rfl
@[simp] theorem State.setA_irqLine : (s.setA v).irqLine = s.irqLine := rfl
@[simp] theorem State.setA_totalCycles : (s.setA v).totalCycles = s.totalCycles := rfl
@[simp] theorem State.setA_instructionsExecuted : (s.setA v).instructionsExecuted = s.instructionsExecuted := rfl
@[simp] theorem State.setA_stepCycles : (s.setA v).stepCycles = s.stepCycles := rfl
@[simp] theorem State.setA_lastStep : (s.setA v).lastStep = s.lastStep := rfl
@[simp] theorem State.setA_lastResult : (s.setA v).lastResult = s.lastResult := rfl
@[simp] theorem State.setA_runStatus : (s.setA v).runStatus = s.runStatus := rfl
@[simp] theorem State.setA_run : (s.setA v).run = s.run := rfl
@[simp] theorem State.setA_lastTrigger : (s.setA v).lastTrigger = s.lastTrigger := rfl
@[simp] theorem State.setA_ram : (s.setA v).ram = s.ram := rfl
@[simp] theorem State.setA_hooks : (s.setA v).hooks = s.hooks := rfl
@[simp] theorem State.setA_dev : (s.setA v).dev = s.dev := rfl
@[simp] theorem State.setA_inputs : (s.setA v).inputs = s.inputs := rfl
end

section
variable (s : State) (v : Byte)
@[simp] theorem State.setX_cfg : (s.setX v).cfg = s.cfg := rfl
@[simp] theorem State.setX_a : (s.setX v).a = s.a := rfl
@[simp] theorem State.setX_x : (s.setX v).x = v := rfl
@[simp] theorem State.setX_y : (s.setX v).y = s.y := rfl
@[simp] theorem State.setX_sp : (s.setX v).sp = s.sp := rfl
@[simp] theorem State.setX_pc : (s.setX v).pc = s.pc := rfl
@[simp] theorem State.setX_p : (s.setX v).p = s.p := rfl
@[simp] theorem State.setX_nmiLine : (s.setX v).nmiLine = s.nmiLine := rfl
@[simp] theorem State.setX_nmiPending : (s.setX v).nmiPending = s.nmiPending := rfl
@[simp] theorem State.setX_irqLine : (s.setX v).irqLine = s.irqLine := rfl
@[simp] theorem State.setX_totalCycles : (s.setX v).totalCycles = s.totalCycles := rfl
@[simp] theorem State.setX_instructionsExecuted : (s.setX v).instructionsExecuted = s.instructionsExecuted := rfl
@[simp] theorem State.setX_stepCycles : (s.setX v).stepCycles = s.stepCycles := rfl
@[simp] theorem State.setX_lastStep : (s.setX v).lastStep = s.lastStep := rfl
@[simp] theorem State.setX_lastResult : (s.setX v).lastResult = s.lastResult := rfl
@[simp] theorem State.setX_runStatus : (s.setX v).runStatus = s.runStatus := rfl
@[simp] theorem State.setX_run : (s.setX v).run = s.run := rfl
@[simp] theorem State.setX_lastTrigger : (s.setX v).lastTrigger = s.lastTrigger := rfl
@[simp] theorem State.setX_ram : (s.setX v).ram = s.ram := rfl
@[simp] theorem State.setX_hooks : (s.setX v).hooks = s.hooks := rfl
@[simp] theorem State.setX_dev : (s.setX v).dev = s.dev := rfl
@[simp] theorem State.setX_inputs : (s.setX v).inputs = s.inputs := rfl
end

section
variable (s : State) (v : Byte)
@[simp] theorem State.setY_cfg : (s.setY v).cfg = s.cfg := rfl
@[simp] theorem State.setY_a : (s.setY v).a = s.a := rfl
@[simp] theorem State.setY_x : (s.setY v).x = s.x := rfl
@[simp] theorem State.setY_y : (s.setY v).y = v := rfl
@[simp] theorem State.setY_sp : (s.setY v).sp = s.sp := rfl
@[simp] theorem State.setY_pc : (s.setY v).pc = s.pc := rfl
@[simp] theorem State.setY_p : (s.setY v).p = s.p := rfl
@[simp] theorem State.setY_nmiLine : (s.setY v).nmiLine = s.nmiLine := rfl
@[simp] theorem State.setY_nmiPending : (s.setY v).nmiPending = s.nmiPending := rfl
@[simp] theorem State.setY_irqLine : (s.setY v).irqLine = s.irqLine := rfl
@[simp] theorem State.setY_totalCycles : (s.setY v).totalCycles = s.totalCycles := rfl
@[simp] theorem State.setY_instructionsExecuted : (s.setY v).instructionsExecuted = s.instructionsExecuted := rfl
@[simp] theorem State.setY_stepCycles : (s.setY v).stepCycles = s.stepCycles := rfl
@[simp] theorem State.setY_lastStep : (s.setY v).lastStep = s.lastStep := rfl
@[simp] theorem State.setY_lastResult : (s.setY v).lastResult = s.lastResult := rfl
@[simp] theorem State.setY_runStatus : (s.setY v).runStatus = s.runStatus := rfl
@[simp] theorem State.setY_run : (s.setY v).run = s.run := rfl
@[simp] theorem State.setY_lastTrigger : (s.setY v).lastTrigger = s.lastTrigger := rfl
@[simp] theorem State.setY_ram : (s.setY v).ram = s.ram := rfl
@[simp] theorem State.setY_hooks : (s.setY v).hooks = s.hooks := rfl
@[simp] theorem State.setY_dev : (s.setY v).dev = s.dev := rfl
@[simp] theorem State.setY_inputs : (s.setY v).inputs = s.inputs := rfl
end

section
variable (s : State) (v : Byte)
@[simp] theorem State.setSp_cfg : (s.setSp v).cfg = s.cfg := rfl
@[simp] theorem State.setSp_a : (s.setSp v).a = s.a := rfl
@[simp] theorem State.setSp_x : (s.setSp v).x = s.x := rfl
@[simp] theorem State.setSp_y : (s.setSp v).y = s.y := rfl
@[simp] theorem State.setSp_sp : (s.setSp v).sp = v := rfl
@[simp] theorem State.setSp_pc : (s.setSp v).pc = s.pc := rfl
@[simp] theorem State.setSp_p : (s.setSp v).p = s.p := rfl
@[simp] theorem State.setSp_nmiLine : (s.setSp v).nmiLine = s.nmiLine := rfl
@[simp] theorem State.setSp_nmiPending : (s.setSp v).nmiPending = s.nmiPending := rfl
@[simp] theorem State.setSp_irqLine : (s.setSp v).irqLine = s.irqLine := rfl
@[simp] theorem State.setSp_totalCycles : (s.setSp v).totalCycles = s.totalCycles := rfl
@[simp] theorem State.setSp_instructionsExecuted : (s.setSp v).instructionsExecuted = s.instructionsExecuted := rfl
@[simp] theorem State.setSp_stepCycles : (s.setSp v).stepCycles = s.stepCycles := rfl
@[simp] theorem State.setSp_lastStep : (s.setSp v).lastStep = s.lastStep := rfl
@[simp] theorem State.setSp_lastResult : (s.setSp v).lastResult = s.lastResult := rfl
@[simp] theorem State.setSp_runStatus : (s.setSp v).runStatus = s.runStatus := rfl
@[simp] theorem State.setSp_run : (s.setSp v).run = s.run := rfl
@[simp] theorem State.setSp_lastTrigger : (s.setSp v).lastTrigger = s.lastTrigger := rfl
@[simp] theorem State.setSp_ram : (s.setSp v).ram = s.ram := rfl
@[simp] theorem State.setSp_hooks : (s.setSp v).hooks = s.hooks := rfl
@[simp] theorem State.setSp_dev : (s.setSp v).dev = s.dev := rfl
@[simp] theorem State.setSp_inputs : (s.setSp v).inputs = s.inputs := rfl
end

section
variable (s : State) (v : Word)
@[simp] theorem State.setPc_cfg : (s.setPc v).cfg = s.cfg := rfl
@[simp] theorem State.setPc_a : (s.setPc v).a = s.a := rfl
@[simp] theorem State.setPc_x : (s.setPc v).x = s.x := rfl
@[simp] theorem State.setPc_y : (s.setPc v).y = s.y := rfl
@[simp] theorem State.setPc_sp : (s.setPc v).sp = s.sp := rfl
@[simp] theorem State.setPc_pc : (s.setPc v).pc = v := rfl
@[simp] theorem State.setPc_p : (s.setPc v).p = s.p := rfl
@[simp] theorem State.setPc_nmiLine : (s.setPc v).nmiLine = s.nmiLine := rfl
@[simp] theorem State.setPc_nmiPending : (s.setPc v).nmiPending = s.nmiPending := rfl
@[simp] theorem State.setPc_irqLine : (s.setPc v).irqLine = s.irqLine := rfl
@[simp] theorem State.setPc_totalCycles : (s.setPc v).totalCycles = s.totalCycles := rfl
@[simp] theorem State.setPc_instructionsExecuted : (s.setPc v).instructionsExecuted = s.instructionsExecuted := rfl
@[simp] theorem State.setPc_stepCycles : (s.setPc v).stepCycles = s.stepCycles := rfl
@[simp] theorem State.setPc_lastStep : (s.setPc v).lastStep = s.lastStep := rfl
@[simp] theorem State.setPc_lastResult : (s.setPc v).lastResult = s.lastResult := rfl
@[simp] theorem State.setPc_runStatus : (s.setPc v).runStatus = s.runStatus := rfl
@[simp] theorem State.setPc_run : (s.setPc v).run = s.run := rfl
@[simp] theorem State.setPc_lastTrigger : (s.setPc v).lastTrigger = s.lastTrigger := rfl
@[simp] theorem State.setPc_ram : (s.setPc v).ram = s.ram := rfl
@[simp] theorem State.setPc_hooks : (s.setPc v).hooks = s.hooks := rfl
@[simp] theorem State.setPc_dev : (s.setPc v).dev = s.dev := rfl
@[simp] theorem State.setPc_inputs : (s.setPc v).inputs = s.inputs := rfl
end

section
variable (s : State) (v : Status)
@[simp] theorem State.setP_cfg : (s.setP v).cfg = s.cfg := rfl
@[simp] theorem State.setP_a : (s.setP v).a = s.a := rfl
@[simp] theorem State.setP_x : (s.setP v).x = s.x := rfl
@[simp] theorem State.setP_y : (s.setP v).y = s.y := rfl
@[simp] theorem State.setP_sp : (s.setP v).sp = s.sp := rfl
@[simp] theorem State.setP_pc : (s.setP v).pc = s.pc := rfl
@[simp] theorem State.setP_p : (s.setP v).p = v := rfl
@[simp] theorem State.setP_nmiLine : (s.setP v).nmiLine = s.nmiLine := rfl
@[simp] theorem State.setP_nmiPending : (s.setP v).nmiPending = s.nmiPending := rfl
@[simp] theorem State.setP_irqLine : (s.setP v).irqLine = s.irqLine := rfl
@[simp] theorem State.setP_totalCycles : (s.setP v).totalCycles = s.totalCycles := rfl
@[simp] theorem State.setP_instructionsExecuted : (s.setP v).instructionsExecuted = s.instructionsExecuted := rfl
@[simp] theorem State.setP_stepCycles : (s.setP v).stepCycles = s.stepCycles := rfl
@[simp] theorem State.setP_lastStep : (s.setP v).lastStep = s.lastStep := rfl
@[simp] theorem State.setP_lastResult : (s.setP v).lastResult = s.lastResult := rfl
@[simp] theorem State.setP_runStatus : (s.setP v).runStatus = s.runStatus := rfl
@[simp] theorem State.setP_run : (s.setP v).run = s.run := rfl
@[simp] theorem State.setP_lastTrigger : (s.setP v).lastTrigger = s.lastTrigger := rfl
@[simp] theorem State.setP_ram : (s.setP v).ram = s.ram := rfl
@[simp] theorem State.setP_hooks : (s.setP v).hooks = s.hooks := rfl
@[simp] theorem State.setP_dev : (s.setP v).dev = s.dev := rfl
@[simp] theorem State.setP_inputs : (s.setP v).inputs = s.inputs := rfl
end

section
variable (s : State) (v : Mem)
@[simp] theorem State.withRam_cfg : (s.withRam v).cfg = s.cfg := rfl
@[simp] theorem State.withRam_a : (s.withRam v).a = s.a := rfl
@[simp] theorem State.withRam_x : (s.withRam v).x = s.x := rfl
@[simp] theorem State.withRam_y : (s.withRam v).y = s.y := rfl
@[simp] theorem State.withRam_sp : (s.withRam v).sp = s.sp := rfl
@[simp] theorem State.withRam_pc : (s.withRam v).pc = s.pc := rfl
@[simp] theorem State.withRam_p : (s.withRam v).p = s.p := rfl
@[simp] theorem State.withRam_nmiLine : (s.withRam v).nmiLine = s.nmiLine := rfl
@[simp] theorem State.withRam_nmiPending : (s.withRam v).nmiPending = s.nmiPending := rfl
@[simp] theorem State.withRam_irqLine : (s.withRam v).irqLine = s.irqLine := rfl
@[simp] theorem State.withRam_totalCycles : (s.withRam v).totalCycles = s.totalCycles := rfl
@[simp] theorem State.withRam_instructionsExecuted : (s.withRam v).instructionsExecuted = s.instructionsExecuted := rfl
@[simp] theorem State.withRam_stepCycles : (s.withRam v).stepCycles = s.stepCycles := rfl
@[simp] theorem State.withRam_lastStep : (s.withRam v).lastStep = s.lastStep := rfl
@[simp] theorem State.withRam_lastResult : (s.withRam v).lastResult = s.lastResult := rfl
@[simp] theorem State.withRam_runStatus : (s.withRam v).runStatus = s.runStatus := rfl
@[simp] theorem State.withRam_run : (s.withRam v).run = s.run := rfl
@[simp] theorem State.withRam_lastTrigger : (s.withRam v).lastTrigger = s.lastTrigger := rfl
@[simp] theorem State.withRam_ram : (s.withRam v).ram = v := rfl
@[simp] theorem State.withRam_hooks : (s.withRam v).hooks = s.hooks := rfl
@[simp] theorem State.withRam_dev : (s.withRam v).dev = s.dev := rfl
@[simp] theorem State.withRam_inputs : (s.withRam v).inputs = s.inputs := rfl
end

section
variable (s : State) (v : Devices)
@[simp] theorem State.withDev_cfg : (s.withDev v).cfg = s.cfg := rfl
@[simp] theorem State.withDev_a : (s.withDev v).a = s.a := rfl
@[simp] theorem State.withDev_x : (s.withDev v).x = s.x := rfl
@[simp] theorem State.withDev_y : (s.withDev v).y = s.y := rfl
@[simp] theorem State.withDev_sp : (s.withDev v).sp = s.sp := rfl
@[simp] theorem State.withDev_pc : (s.withDev v).pc = s.pc := rfl
@[simp] theorem State.withDev_p : (s.withDev v).p = s.p := rfl
@[simp] theorem State.withDev_nmiLine : (s.withDev v).nmiLine = s.nmiLine := rfl
@[simp] theorem State.withDev_nmiPending : (s.withDev v).nmiPending = s.nmiPending := rfl
@[simp] theorem State.withDev_irqLine : (s.withDev v).irqLine = s.irqLine := rfl
@[simp] theorem State.withDev_totalCycles : (s.withDev v).totalCycles = s.totalCycles := rfl
@[simp] theorem State.withDev_instructionsExecuted : (s.withDev v).instructionsExecuted = s.instructionsExecuted := rfl
@[simp] theorem State.withDev_stepCycles : (s.withDev v).stepCycles = s.stepCycles := rfl
@[simp] theorem State.withDev_lastStep : (s.withDev v).lastStep = s.lastStep := rfl
@[simp] theorem State.withDev_lastResult : (s.withDev v).lastResult = s.lastResult := rfl
@[simp] theorem State.withDev_runStatus : (s.withDev v).runStatus = s.runStatus := rfl
@[simp] theorem State.withDev_run : (s.withDev v).run = s.run := rfl
@[simp] theorem State.withDev_lastTrigger : (s.withDev v).lastTrigger = s.lastTrigger := rfl
@[simp] theorem State.withDev_ram : (s.withDev v).ram = s.ram := rfl
@[simp] theorem State.withDev_hooks : (s.withDev v).hooks = s.hooks := rfl
@[simp] theorem State.withDev_dev : (s.withDev v).dev = v := rfl
@[simp] theorem State.withDev_inputs : (s.withDev v).inputs = s.inputs := rfl
end

section
variable (s : State) (i : Instr) (k : Nat)
@[simp] theorem State.retire_cfg : (s.retire i k).cfg = s.cfg := rfl
@[simp] theorem State.retire_a : (s.retire i k).a = s.a := rfl
@[simp] theorem State.retire_x : (s.retire i k).x = s.x := rfl
@[simp] theorem State.retire_y : (s.retire i k).y = s.y := rfl
@[simp] theorem State.retire_sp : (s.retire i k).sp = s.sp := rfl
@[simp] theorem State.retire_pc : (s.retire i k).pc = s.pc := rfl
@[simp] theorem State.retire_p : (s.retire i k).p = s.p := rfl
@[simp] theorem State.retire_nmiLine : (s.retire i k).nmiLine = s.nmiLine := rfl
@[simp] theorem State.retire_nmiPending : (s.retire i k).nmiPending = s.nmiPending := rfl
@[simp] theorem State.retire_irqLine : (s.retire i k).irqLine = s.irqLine := rfl
@[simp] theorem State.retire_totalCycles : (s.retire i k).totalCycles = s.totalCycles := rfl
@[simp] theorem State.retire_instructionsExecuted : (s.retire i k).instructionsExecuted = s.instructionsExecuted + 1 := rfl
@[simp] theorem State.retire_stepCycles : (s.retire i k).stepCycles = i.baseCycles + k := rfl
@[simp] theorem State.retire_lastStep : (s.retire i k).lastStep = .instruction := rfl
@[simp] theorem State.retire_lastResult : (s.retire i k).lastResult = resultOf i (i.baseCycles + k) := rfl
@[simp] theorem State.retire_runStatus : (s.retire i k).runStatus = s.runStatus := rfl
@[simp] theorem State.retire_run : (s.retire i k).run = s.run := rfl
@[simp] theorem State.retire_lastTrigger : (s.retire i k).lastTrigger = s.lastTrigger := rfl
@[simp] theorem State.retire_ram : (s.retire i k).ram = s.ram := rfl
@[simp] theorem State.retire_hooks : (s.retire i k).hooks = s.hooks := rfl
@[simp] theorem State.retire_dev : (s.retire i k).dev = s.dev := rfl
@[simp] theorem State.retire_inputs : (s.retire i k).inputs = s.inputs := rfl
end

end Sys2Proof.Machine
end

