-- ==== Sys2Proof/Laws/Bus.lean ====
section
/-! SUPPORT. What a memory access can do: a read changes device state only, a write RAM and device state only; where no
hook covers the address it is plain RAM (R36, R37). -/

namespace Sys2Proof.Machine

@[simp] theorem State.withDev_self (s : State) : s.withDev s.dev = s := rfl

@[simp] theorem State.withDev_withDev (s : State) (d e : Devices) : (s.withDev d).withDev e = s.withDev e := rfl

@[simp] theorem State.withRam_self (s : State) : s.withRam s.ram = s := rfl

@[simp] theorem hookAt_nil (a : Nat) : hookAt [] a = none := rfl

@[simp] theorem State.memRead_fst (s : State) (a : Word) : (s.memRead a).1 = (s.busRead a).1 := rfl

/-- A read changes device state only. -/
@[simp] theorem State.memRead_snd (s : State) (a : Word) : (s.memRead a).2 = s.withDev (s.busRead a).2 := rfl

/-- A write changes RAM and device state only. -/
theorem State.memWrite_eq (s : State) (a : Word) (b : Byte) :
    s.memWrite a b = (s.withRam (s.busWrite a b).1).withDev (s.busWrite a b).2 := rfl

/-- R36: with no reader hook on the address, a read is one of RAM and has no effect. -/
theorem State.busRead_plain {s : State} {a : Word} (h : hookAt s.hooks.readers a.toNat = none) :
    s.busRead a = (s.ramByte a, s.dev) := by
  simp [State.busRead, h, State.ramByte]

/-- R37: with no writer hook on the address, a write is one of RAM. -/
theorem State.busWrite_plain {s : State} {a : Word} (b : Byte) (h : hookAt s.hooks.writers a.toNat = none) :
    s.busWrite a b = (s.ram.write a.toNat b, s.dev) := by
  simp [State.busWrite, h]

theorem State.memRead_plain {s : State} {a : Word} (h : hookAt s.hooks.readers a.toNat = none) :
    s.memRead a = (s.ramByte a, s) := by
  simp [State.memRead, State.busRead_plain h]

theorem State.memWrite_plain {s : State} {a : Word} (b : Byte) (h : hookAt s.hooks.writers a.toNat = none) :
    s.memWrite a b = s.withRam (s.ram.write a.toNat b) := by
  rw [State.memWrite_eq, State.busWrite_plain b h]; rfl

/-- R37, R49: a write through a hook leaves RAM alone or writes the addressed byte of it. -/
theorem hookWrite_ram (s : State) (h : Device) (off a : Nat) (b : Byte) :
    (hookWrite s h off a b).1 = s.ram ∨ (hookWrite s h off a b).1 = s.ram.write a b := by
  cases h with
  | ioWindow => unfold hookWrite; cases ioViewOf (bankOf s.ram) <;> simp
  | basicWindow | kernalWindow | register _ | buffer _ _ => simp [hookWrite]

/-- R37: a write leaves RAM alone or writes the addressed byte of it. -/
theorem State.busWrite_ram (s : State) (a : Word) (b : Byte) :
    (s.busWrite a b).1 = s.ram ∨ (s.busWrite a b).1 = s.ram.write a.toNat b := by
  unfold State.busWrite
  split
  · exact .inr rfl
  · exact hookWrite_ram s _ _ _ b

/-- Every byte of RAM but the addressed one reads as before a write. -/
theorem State.memWrite_ramByte_other (s : State) {a c : Word} (b : Byte) (h : c ≠ a) :
    (s.memWrite a b).ramByte c = s.ramByte c := by
  have hn : a.toNat ≠ c.toNat := fun e => h (BitVec.eq_of_toNat_eq e.symm)
  rcases s.busWrite_ram a b with e | e <;>
    simp [State.memWrite_eq, State.ramByte, e, Mem.read_write_other _ b hn]

/-- An address is below the size of RAM. -/
theorem word_lt_ramSize (a : Word) : a.toNat < ramSize := a.isLt

/-- Every access keeps RAM canonical. -/
theorem State.memWrite_ram_wf {s : State} (a : Word) (b : Byte) (h : s.ram.wf ramSize = true) :
    (s.memWrite a b).ram.wf ramSize = true := by
  rcases s.busWrite_ram a b with e | e
  · simpa [State.memWrite_eq, e] using h
  · simpa [State.memWrite_eq, e] using Mem.wf_write b h (word_lt_ramSize a)

/-- R50: with no hook on the address, a read returns the byte of the last write. -/
theorem State.memWrite_ramByte_same {s : State} {a : Word} (b : Byte) (hw : hookAt s.hooks.writers a.toNat = none)
    (h : s.ram.wf ramSize = true) : (s.memWrite a b).ramByte a = b := by
  simp [State.memWrite_plain b hw, State.ramByte, Mem.read_write_same b h]


end Sys2Proof.Machine
end

