-- ==== Sys2Proof/Laws/Devices.lean ====
section
/-! SUPPORT. Every operation on the devices keeps them sound (Safety.lean): register reads and writes, and the advance
by cycles. -/

namespace Sys2Proof.Machine

/-! ### The VIC-II -/

theorem Vic.Sound.wrapFrame {v : Vic} (h : v.Sound) : (vicWrapFrame v).frame.Sound ∧ (vicWrapFrame v).lastFrame.Sound :=
  ⟨⟨h.regs, by simp [vicWrapFrame]⟩, h.frame⟩

theorem vicEnterLine_sound (t : Timing) {v : Vic} (h : v.Sound) : (vicEnterLine t v).Sound := by
  unfold vicEnterLine
  split
  · exact ⟨h.regs, h.wrapFrame.1, h.wrapFrame.2, by simp [vicWrapFrame]⟩
  · exact ⟨h.regs, h.frame, h.lastFrame, fun w hw => Nat.le_succ_of_le (h.issued w hw)⟩

theorem vicTick_sound (t : Timing) {v : Vic} (h : v.Sound) : (vicTick t v).Sound := by
  unfold vicTick
  split
  · exact vicEnterLine_sound t h
  · exact ⟨h.regs, h.frame, h.lastFrame, h.issued⟩

theorem vicTicks_sound (t : Timing) (n : Nat) {v : Vic} (h : v.Sound) : (vicTicks t n v).Sound := by
  induction n generalizing v with
  | zero => exact h
  | succ n ih => exact ih (vicTick_sound t h)

theorem vicAdvance_sound (t : Timing) (n : Nat) {v : Vic} (h : v.Sound) : (vicAdvance t n v).Sound :=
  vicTicks_sound t n ⟨h.regs, h.frame, h.lastFrame, h.issued⟩

/-- R170: one cycle keeps the raster position in the frame. -/
theorem vicTick_inFrame {t : Timing} (ht : t.positive = true) {v : Vic} (h : v.InFrame t) : (vicTick t v).InFrame t := by
  have hl := h.line
  have hc := h.cycle
  simp only [Timing.positive, Bool.and_eq_true, decide_eq_true_eq] at ht
  unfold vicTick
  split
  · unfold vicEnterLine
    split
    · exact ⟨ht.2, ht.1⟩
    · exact ⟨by simp only; omega, ht.1⟩
  · exact ⟨hl, by simp only; omega⟩

theorem vicTicks_inFrame {t : Timing} (ht : t.positive = true) (n : Nat) {v : Vic} (h : v.InFrame t) :
    (vicTicks t n v).InFrame t := by
  induction n generalizing v with
  | zero => exact h
  | succ n ih => exact ih (vicTick_inFrame ht h)

theorem vicAdvance_inFrame {t : Timing} (ht : t.positive = true) (n : Nat) {v : Vic} (h : v.InFrame t) :
    (vicAdvance t n v).InFrame t :=
  vicTicks_inFrame ht n ⟨h.line, h.cycle⟩

/-- A register write keeps the VIC-II sound and its raster position. -/
theorem vicWrite_sound {v : Vic} {reg : Nat} (b : Byte) (hr : reg < 64) (h : v.Sound) : (vicWrite v reg b).Sound := by
  unfold vicWrite
  split
  · exact h
  · split
    · exact ⟨h.regs, h.frame, h.lastFrame, h.issued⟩
    · refine ⟨Mem.wf_write b h.regs hr, ⟨h.frame.start, ?_⟩, h.lastFrame, ?_⟩
      · intro w hw
        simp only [List.mem_append, List.mem_singleton] at hw
        rcases hw with hw | rfl
        · exact h.frame.writes w hw
        · exact hr
      · intro w hw
        simp only [List.mem_append, List.mem_singleton] at hw
        rcases hw with hw | rfl
        · exact h.issued w hw
        · exact Nat.le_refl _

theorem vicWrite_position (v : Vic) (reg : Nat) (b : Byte) :
    (vicWrite v reg b).rasterLine = v.rasterLine ∧ (vicWrite v reg b).cycleInLine = v.cycleInLine := by
  unfold vicWrite
  split
  · exact ⟨rfl, rfl⟩
  · split <;> exact ⟨rfl, rfl⟩

/-! ### The SID -/

theorem sustainLevel_range (v : Voice) : 0 ≤ sustainLevel v ∧ sustainLevel v ≤ 1 := by
  have hn : highNibble v.sr ≤ 15 := by
    have := v.sr.isLt
    unfold highNibble
    omega
  have hq : (highNibble v.sr : Rat) ≤ 15 := by exact_mod_cast hn
  have h0 : (0 : Rat) ≤ (highNibble v.sr : Rat) := by positivity
  unfold sustainLevel
  constructor
  · positivity
  · rw [div_le_one (by norm_num)]
    exact hq

/-- R181: a ramp keeps the level in [0, 1]. -/
theorem voiceAdvance_sound {t : Rat} (ht : 0 ≤ t) {v : Voice} (h : v.Sound) : (voiceAdvance t v).Sound := by
  have hl := h.low
  have hh := h.high
  unfold voiceAdvance
  cases hp : v.phase with
  | idle => exact ⟨le_refl _, by norm_num, fun _ => rfl⟩
  | attack =>
    have hq : 0 ≤ t / (voiceAttackMs v : Rat) := by positivity
    simp only
    split
    · exact ⟨by norm_num, le_refl _, fun hc => by simp at hc⟩
    · rename_i hlt
      exact ⟨by simp only; linarith, by simp only; linarith, fun hc => by simp at hc⟩
  | decay =>
    have hq : 0 ≤ t / (voiceDecayMs v : Rat) := by positivity
    have hs := sustainLevel_range v
    simp only
    split
    · exact ⟨hs.1, hs.2, fun hc => by simp at hc⟩
    · rename_i hlt
      exact ⟨by simp only; linarith, by simp only; linarith, fun hc => by simp at hc⟩
  | sustain => exact h
  | release =>
    have hq : 0 ≤ t / (voiceReleaseMs v : Rat) := by positivity
    simp only
    split
    · exact ⟨le_refl _, by norm_num, fun _ => rfl⟩
    · rename_i hlt
      exact ⟨by simp only; linarith, by simp only; linarith, fun hc => by simp at hc⟩

theorem controlWrite_sound {v : Voice} (w : Byte) (h : v.Sound) : (controlWrite v w).1.Sound := by
  unfold controlWrite
  split
  · exact ⟨le_refl _, by norm_num, fun _ => rfl⟩
  · split
    · exact ⟨h.low, h.high, fun hc => by simp at hc⟩
    · split
      · exact ⟨h.low, h.high, fun hc => by simp at hc⟩
      · exact ⟨h.low, h.high, h.idle⟩

theorem voiceRecord_sound (k : CommandKind) (mv : Byte) {v : Voice} (h : v.Sound) : (voiceRecord k mv v).Sound :=
  ⟨h.low, h.high, h.idle⟩

theorem voiceWrite_sound (mv : Byte) {v : Voice} (r : Nat) (b : Byte) (h : v.Sound) : (voiceWrite mv v r b).Sound := by
  unfold voiceWrite
  split
  · exact ⟨h.low, h.high, h.idle⟩
  · exact ⟨h.low, h.high, h.idle⟩
  · exact ⟨h.low, h.high, h.idle⟩
  · exact ⟨h.low, h.high, h.idle⟩
  · exact voiceRecord_sound _ _ (controlWrite_sound b h)
  · exact ⟨h.low, h.high, h.idle⟩
  · exact ⟨h.low, h.high, h.idle⟩
  · exact h

/-- The three voices of a SID are sound. -/
def Sid.Sound (s : Sid) : Prop := s.voice0.Sound ∧ s.voice1.Sound ∧ s.voice2.Sound

theorem sidRecordAll_sound (k : CommandKind) {s : Sid} (h : s.Sound) : (sidRecordAll k s).Sound :=
  ⟨voiceRecord_sound k _ h.1, voiceRecord_sound k _ h.2.1, voiceRecord_sound k _ h.2.2⟩

theorem sidWrite_sound (reg : Nat) (b : Byte) {s : Sid} (h : s.Sound) : (sidWrite s reg b).Sound := by
  unfold sidWrite
  split
  · exact ⟨voiceWrite_sound _ _ _ h.1, h.2.1, h.2.2⟩
  split
  · exact ⟨h.1, voiceWrite_sound _ _ _ h.2.1, h.2.2⟩
  split
  · exact ⟨h.1, h.2.1, voiceWrite_sound _ _ _ h.2.2⟩
  split
  · exact sidRecordAll_sound _ h
  split
  · exact sidRecordAll_sound _ h
  split
  · exact sidRecordAll_sound _ h
  split
  · exact sidRecordAll_sound _ h
  · exact h

theorem cyclesToMs_nonneg (c : Config) (n : Nat) : 0 ≤ cyclesToMs c n := by
  unfold cyclesToMs
  positivity

theorem sidAdvance_sound (c : Config) (n : Nat) {s : Sid} (h : s.Sound) : (sidAdvance c n s).Sound :=
  ⟨voiceAdvance_sound (cyclesToMs_nonneg c n) h.1, voiceAdvance_sound (cyclesToMs_nonneg c n) h.2.1,
    voiceAdvance_sound (cyclesToMs_nonneg c n) h.2.2⟩

/-! ### The CIAs -/

theorem timerTick_strobe {t : CiaTimer} (h : t.control.getLsbD 4 = false) : (timerTick t).1.control.getLsbD 4 = false := by
  unfold timerTick
  split
  · exact h
  · split
    · simp only
      split
      · simp only [BitVec.getLsbD_and, h, Bool.false_and]
      · exact h
    · exact h

theorem ciaAdvance_sound (n : Nat) {c : Cia} (h : c.Sound) : (ciaAdvance n c).Sound := by
  induction n generalizing c with
  | zero => exact h
  | succ n ih => exact ih ⟨timerTick_strobe h.strobeA, timerTick_strobe h.strobeB⟩

theorem timerWriteHi_control (t : CiaTimer) (b : Byte) : (timerWriteHi t b).control = t.control := by
  unfold timerWriteHi
  split <;> rfl

theorem timerWriteControl_strobe (t : CiaTimer) (b : Byte) : (timerWriteControl t b).control.getLsbD 4 = false := by
  have h : (0xEF : Byte).getLsbD 4 = false := by decide
  simp only [timerWriteControl, BitVec.getLsbD_and, h, Bool.and_false]

theorem ciaWrite_sound {c : Cia} (reg : Nat) (b : Byte) (h : c.Sound) : (ciaWrite c reg b).Sound := by
  unfold ciaWrite
  split
  · exact ⟨h.strobeA, h.strobeB⟩
  · exact ⟨h.strobeA, h.strobeB⟩
  · exact ⟨h.strobeA, h.strobeB⟩
  · exact ⟨h.strobeA, h.strobeB⟩
  · exact ⟨h.strobeA, h.strobeB⟩
  · exact ⟨by simpa [timerWriteHi_control] using h.strobeA, h.strobeB⟩
  · exact ⟨h.strobeA, h.strobeB⟩
  · exact ⟨h.strobeA, by simpa [timerWriteHi_control] using h.strobeB⟩
  · unfold icrWrite
    split <;> exact ⟨h.strobeA, h.strobeB⟩
  · exact ⟨timerWriteControl_strobe _ _, h.strobeB⟩
  · exact ⟨h.strobeA, timerWriteControl_strobe _ _⟩
  · exact h

theorem ciaAfterRead_sound {c : Cia} (reg : Nat) (h : c.Sound) : (ciaAfterRead c reg).Sound := by
  unfold ciaAfterRead
  split
  · exact ⟨h.strobeA, h.strobeB⟩
  · exact h

/-! ### Colour RAM -/

theorem Mem.mem_write {m : Mem} {a : Nat} {v : Byte} {c : Host.Cell} (h : c ∈ m.write a v) :
    c ∈ m ∨ c = (a, v) := by
  induction m with
  | nil =>
    unfold Mem.write Mem.cons at h
    split at h
    · simp at h
    · simp at h; exact .inr h
  | cons e m ih =>
    obtain ⟨k, w⟩ := e
    unfold Mem.write at h
    split at h
    · unfold Mem.cons at h
      split at h
      · exact .inl h
      · rcases List.mem_cons.mp h with h | h
        · exact .inr h
        · exact .inl h
    · split at h
      · unfold Mem.cons at h
        split at h
        · exact .inl (List.mem_cons_of_mem _ h)
        · rcases List.mem_cons.mp h with h | h
          · exact .inr h
          · exact .inl (List.mem_cons_of_mem _ h)
      · rcases List.mem_cons.mp h with h | h
        · exact .inl (h ▸ List.mem_cons_self ..)
        · rcases ih h with h | h
          · exact .inl (List.mem_cons_of_mem _ h)
          · exact .inr h

/-! ### All the devices -/

theorem Devices.Sound.sid {d : Devices} (h : d.Sound) : d.sid.Sound := ⟨h.voice0, h.voice1, h.voice2⟩

theorem drawByte_sound {d : Devices} (h : d.Sound) : (drawByte d).2.Sound :=
  ⟨h.vic, h.voice0, h.voice1, h.voice2, h.cia1, h.cia2, h.colour, h.nibbles⟩

theorem maskedRead_sound {d : Devices} (mask value : Byte) (h : d.Sound) : (maskedRead d mask value).2.Sound := by
  unfold maskedRead
  split
  · exact h
  · exact drawByte_sound h

theorem maskedRead_vic (d : Devices) (mask value : Byte) : (maskedRead d mask value).2.vic = d.vic := by
  unfold maskedRead
  split <;> rfl

theorem registerRead_sound (inp : Inputs) {d : Devices} (r : IoRegister) (h : d.Sound) :
    (registerRead inp d r).2.Sound := by
  cases r with
  | vic r | colour k => exact maskedRead_sound _ _ h
  | sid r | expansion => exact drawByte_sound h
  | cia1 r =>
    exact maskedRead_sound _ _
      ⟨h.vic, h.voice0, h.voice1, h.voice2, ciaAfterRead_sound _ h.cia1, h.cia2, h.colour, h.nibbles⟩
  | cia2 r =>
    exact maskedRead_sound _ _
      ⟨h.vic, h.voice0, h.voice1, h.voice2, h.cia1, ciaAfterRead_sound _ h.cia2, h.colour, h.nibbles⟩

/-- A read of a device register leaves the VIC-II alone. -/
theorem registerRead_vic (inp : Inputs) (d : Devices) (r : IoRegister) : (registerRead inp d r).2.vic = d.vic := by
  cases r with
  | sid r | expansion => rfl
  | vic r | colour k | cia1 r | cia2 r => exact maskedRead_vic _ _ _

theorem registerWrite_sound {d : Devices} (r : IoRegister) (b : Byte) (h : d.Sound) : (registerWrite d r b).Sound := by
  cases r with
  | vic r =>
    exact ⟨vicWrite_sound b r.isLt h.vic, h.voice0, h.voice1, h.voice2, h.cia1, h.cia2, h.colour, h.nibbles⟩
  | sid r =>
    have hw := sidWrite_sound r b h.sid
    exact ⟨h.vic, hw.1, hw.2.1, hw.2.2, h.cia1, h.cia2, h.colour, h.nibbles⟩
  | colour k =>
    refine ⟨h.vic, h.voice0, h.voice1, h.voice2, h.cia1, h.cia2, Mem.wf_write _ h.colour k.isLt, ?_⟩
    intro c hc
    rcases Mem.mem_write hc with hc | rfl
    · exact h.nibbles c hc
    · simp only [BitVec.toNat_and]
      exact Nat.lt_of_le_of_lt Nat.and_le_right (by decide)
  | cia1 r => exact ⟨h.vic, h.voice0, h.voice1, h.voice2, ciaWrite_sound _ b h.cia1, h.cia2, h.colour, h.nibbles⟩
  | cia2 r => exact ⟨h.vic, h.voice0, h.voice1, h.voice2, h.cia1, ciaWrite_sound _ b h.cia2, h.colour, h.nibbles⟩
  | expansion => exact h

/-- A write of a device register leaves the raster position alone. -/
theorem registerWrite_position (d : Devices) (r : IoRegister) (b : Byte) :
    (registerWrite d r b).vic.rasterLine = d.vic.rasterLine
      ∧ (registerWrite d r b).vic.cycleInLine = d.vic.cycleInLine := by
  cases r with
  | vic r => exact vicWrite_position d.vic r b
  | sid r | colour k | cia1 r | cia2 r | expansion => exact ⟨rfl, rfl⟩

/-- The catch-up keeps the devices sound. -/
theorem devicesAdvance_sound (c : Config) (t : Timing) (n : Nat) {d : Devices} (h : d.Sound) :
    (devicesAdvance c t n d).Sound :=
  have hs := sidAdvance_sound c n h.sid
  ⟨vicAdvance_sound t n h.vic, hs.1, hs.2.1, hs.2.2, ciaAdvance_sound n h.cia1, ciaAdvance_sound n h.cia2, h.colour,
    h.nibbles⟩

end Sys2Proof.Machine
end

