-- ==== Sys2Proof/Laws/Encoding.lean ====
section
/-! SUPPORT. The opcode table as a bijection between opcodes and rows (R61, R62, R65): each row is found by its opcode and by
its mnemonic and mode, a well-formed instruction has a row, and its operand bytes make it again. -/

namespace Sys2Proof

/-- R61: an opcode byte has at most one row. -/
theorem row_of_its_opcode : ∀ r ∈ opcodeTable, rowOfOpcode r.op = some r := by decide +kernel

/-- R65: a mnemonic and a mode have at most one row. -/
theorem row_of_its_form :
    ∀ r ∈ opcodeTable, opcodeTable.find? (fun q => q.mn == r.mn && q.mode == r.mode) = some r := by decide +kernel

/-- R57: the length of a row is the length of its mode. -/
theorem row_length : ∀ r ∈ opcodeTable, r.length = modeLength r.mode := by decide +kernel

/-- The row of an instruction, where the table has one. -/
theorem Instr.row_eq {i : Instr} {r : OpRow} (h : r ∈ opcodeTable) (hn : i.mnemonic = r.mn) (hm : i.mode = r.mode) :
    i.row = some r := by
  rw [Instr.row, hn, hm]
  exact row_of_its_form r h

theorem Instr.row_sound {i : Instr} {r : OpRow} (h : i.row = some r) :
    r ∈ opcodeTable ∧ r.mn = i.mnemonic ∧ r.mode = i.mode := by
  have hm := List.mem_of_find?_eq_some h
  have hp := List.find?_some h
  simp only [Bool.and_eq_true, beq_iff_eq] at hp
  exact ⟨hm, hp⟩

theorem Instr.opcode_of_row {i : Instr} {r : OpRow} (h : i.row = some r) (hu : ∀ op, i ≠ .undefined op) :
    i.opcode = r.op := by
  cases i <;> first | exact absurd rfl (hu _) | simp [Instr.opcode, h]

theorem Instr.baseCycles_of_row {i : Instr} {r : OpRow} (h : i.row = some r) : i.baseCycles = r.cycles := by
  simp [Instr.baseCycles, h]

theorem Instr.pagePenalty_of_row {i : Instr} {r : OpRow} (h : i.row = some r) : i.pagePenalty = r.pagePenalty := by
  simp [Instr.pagePenalty, h]

/-- The modes in which the table has a mnemonic. -/
def modesOf (mn : Mnemonic) : List Mode := (opcodeTable.filter (fun r => r.mn == mn)).map OpRow.mode

theorem Instr.row_of_mode {i : Instr} (h : i.mode ∈ modesOf i.mnemonic) : ∃ r, i.row = some r := by
  obtain ⟨r, hr, hm⟩ := List.mem_map.mp h
  obtain ⟨ht, hn⟩ := List.mem_filter.mp hr
  exact ⟨r, Instr.row_eq ht (beq_iff_eq.mp hn).symm hm.symm⟩

/-- A well-formed instruction has a row (R61). -/
theorem Instr.row_of_wf {i : Instr} (h : i.wf = true) (hu : ∀ op, i ≠ .undefined op) : ∃ r, i.row = some r := by
  apply Instr.row_of_mode
  cases i
  case undefined op => exact absurd rfl (hu op)
  case lda o | ldx o | ldy o | adc o | sbc o | cmp o | cpx o | cpy o | and o | ora o | eor o | bit o =>
    cases o with
    | immediate b =>
      first
      | exact absurd (show false = true from h) (by decide)
      | (simp only [Instr.mode, ReadOperand.mode, Instr.mnemonic]; decide)
    | memory m =>
      cases m <;> first
      | exact absurd (show false = true from h) (by decide)
      | (simp only [Instr.mode, ReadOperand.mode, MemOperand.mode, Instr.mnemonic]; decide)
  case sta m | stx m | sty m | inc m | dec m =>
    cases m <;> first
    | exact absurd (show false = true from h) (by decide)
    | (simp only [Instr.mode, MemOperand.mode, Instr.mnemonic]; decide)
  case asl o | lsr o | rol o | ror o =>
    cases o with
    | accumulator => simp only [Instr.mode, ShiftOperand.mode, Instr.mnemonic]; decide
    | memory m =>
      cases m <;> first
      | exact absurd (show false = true from h) (by decide)
      | (simp only [Instr.mode, ShiftOperand.mode, MemOperand.mode, Instr.mnemonic]; decide)
  case jmp j => cases j <;> (simp only [Instr.mode, JumpOperand.mode, Instr.mnemonic]; decide)
  all_goals (simp only [Instr.mode, Instr.mnemonic]; decide)

/-! ### Operand bytes make the operand they come from -/

theorem memForm_bytes (m : MemOperand) : memForm m.mode (m.bytes.getD 0 0) (m.bytes.getD 1 0) = some m := by
  cases m <;> simp [MemOperand.mode, MemOperand.bytes, memForm, wordBytes]

theorem readForm_bytes (o : ReadOperand) : readForm o.mode (o.bytes.getD 0 0) (o.bytes.getD 1 0) = some o := by
  cases o with
  | immediate b => rfl
  | memory m =>
    have h := memForm_bytes m
    cases m <;> simp_all [ReadOperand.mode, ReadOperand.bytes, MemOperand.mode, readForm]

theorem shiftForm_bytes (o : ShiftOperand) : shiftForm o.mode (o.bytes.getD 0 0) (o.bytes.getD 1 0) = some o := by
  cases o with
  | accumulator => rfl
  | memory m =>
    have h := memForm_bytes m
    cases m <;> simp_all [ShiftOperand.mode, ShiftOperand.bytes, MemOperand.mode, shiftForm]

theorem jumpForm_bytes (j : JumpOperand) : jumpForm j.mode (j.bytes.getD 0 0) (j.bytes.getD 1 0) = some j := by
  cases j <;> simp [JumpOperand.mode, JumpOperand.bytes, jumpForm, wordBytes]

/-- An instruction is what its mnemonic, its mode and its operand bytes assemble to. -/
theorem Instr.assemble_eq (i : Instr) (hu : ∀ op, i ≠ .undefined op) :
    assemble i.mnemonic i.mode (i.operandBytes.getD 0 0) (i.operandBytes.getD 1 0) = some i := by
  cases i
  case undefined op => exact absurd rfl (hu op)
  case lda o | ldx o | ldy o | adc o | sbc o | cmp o | cpx o | cpy o | and o | ora o | eor o | bit o =>
    exact congrArg (Option.map _) (readForm_bytes o)
  case sta m | stx m | sty m | inc m | dec m => exact congrArg (Option.map _) (memForm_bytes m)
  case asl o | lsr o | rol o | ror o => exact congrArg (Option.map _) (shiftForm_bytes o)
  case jmp j => exact congrArg (Option.map _) (jumpForm_bytes j)
  case jsr w => simp [assemble, Instr.mnemonic, Instr.operandBytes, wordBytes]
  all_goals rfl

end Sys2Proof
end

