-- ==== Sys2Proof/Laws/Ops.lean ====
section
/-! SUPPORT. The shared operations of Ops.lean and Operands.lean: what each can change, the relation `Keeps` that a
sequence of them preserves, and their form on plain RAM. -/

namespace Sys2Proof.Machine

/-! ### Hooked accesses keep the devices sound -/

theorem hookRead_sound {s : State} (h : Device) (off a : Nat) (hd : s.dev.Sound) : (hookRead s h off a).2.Sound := by
  cases h with
  | basicWindow => unfold hookRead; simp only; split <;> exact hd
  | kernalWindow => unfold hookRead; simp only; split <;> exact hd
  | ioWindow =>
    unfold hookRead
    simp only
    split
    · exact hd
    · exact registerRead_sound _ _ hd
    · exact hd
  | register r => exact registerRead_sound _ _ hd
  | buffer id base => exact hd

theorem hookRead_vic (s : State) (h : Device) (off a : Nat) : (hookRead s h off a).2.vic = s.dev.vic := by
  cases h with
  | basicWindow => unfold hookRead; simp only; split <;> rfl
  | kernalWindow => unfold hookRead; simp only; split <;> rfl
  | ioWindow =>
    unfold hookRead
    simp only
    split
    · rfl
    · exact registerRead_vic _ _ _
    · rfl
  | register r => exact registerRead_vic _ _ _
  | buffer id base => rfl

theorem hookWrite_sound {s : State} (h : Device) (off a : Nat) (b : Byte) (hd : s.dev.Sound) :
    (hookWrite s h off a b).2.Sound := by
  cases h with
  | basicWindow | kernalWindow => exact hd
  | ioWindow =>
    unfold hookWrite
    simp only
    split
    · exact registerWrite_sound _ b hd
    · exact hd
    · exact hd
  | register r => exact registerWrite_sound _ b hd
  | buffer id base => exact ⟨hd.vic, hd.voice0, hd.voice1, hd.voice2, hd.cia1, hd.cia2, hd.colour, hd.nibbles⟩

theorem hookWrite_position (s : State) (h : Device) (off a : Nat) (b : Byte) :
    (hookWrite s h off a b).2.vic.rasterLine = s.dev.vic.rasterLine
      ∧ (hookWrite s h off a b).2.vic.cycleInLine = s.dev.vic.cycleInLine := by
  cases h with
  | basicWindow | kernalWindow => exact ⟨rfl, rfl⟩
  | ioWindow =>
    unfold hookWrite
    simp only
    split
    · exact registerWrite_position _ _ _
    · exact ⟨rfl, rfl⟩
    · exact ⟨rfl, rfl⟩
  | register r => exact registerWrite_position _ _ _
  | buffer id base => exact ⟨rfl, rfl⟩

theorem State.busRead_sound {s : State} (a : Word) (hd : s.dev.Sound) : (s.busRead a).2.Sound := by
  unfold State.busRead
  split
  · exact hd
  · exact hookRead_sound _ _ _ hd

theorem State.busRead_vic (s : State) (a : Word) : (s.busRead a).2.vic = s.dev.vic := by
  unfold State.busRead
  split
  · rfl
  · exact hookRead_vic _ _ _ _

theorem State.busWrite_sound {s : State} (a : Word) (b : Byte) (hd : s.dev.Sound) : (s.busWrite a b).2.Sound := by
  unfold State.busWrite
  split
  · exact hd
  · exact hookWrite_sound _ _ _ _ hd

theorem State.busWrite_position (s : State) (a : Word) (b : Byte) :
    (s.busWrite a b).2.vic.rasterLine = s.dev.vic.rasterLine
      ∧ (s.busWrite a b).2.vic.cycleInLine = s.dev.vic.cycleInLine := by
  unfold State.busWrite
  split
  · exact ⟨rfl, rfl⟩
  · exact hookWrite_position _ _ _ _ _

/-! ### What a sequence of operations keeps -/

/-- From s to t the parameters and the hook tables are the same, and the invariant is kept: what every operation of an
instruction does. -/
structure Keeps (s t : State) : Prop where
  cfg : t.cfg = s.cfg
  hooks : t.hooks = s.hooks
  inv : s.Inv → t.Inv

theorem Keeps.refl (s : State) : Keeps s s := ⟨rfl, rfl, id⟩

theorem Keeps.trans {s t u : State} (h : Keeps s t) (k : Keeps t u) : Keeps s u :=
  ⟨k.cfg.trans h.cfg, k.hooks.trans h.hooks, fun i => k.inv (h.inv i)⟩

/-- An update that leaves parameters, hooks, RAM and devices alone. -/
theorem Keeps.of_eq {s t : State} (hc : t.cfg = s.cfg) (hh : t.hooks = s.hooks) (hr : t.ram = s.ram)
    (hd : t.dev = s.dev) : Keeps s t :=
  ⟨hc, hh, fun i => ⟨hr ▸ i.ram, hd ▸ i.dev, fun m hm ht => by rw [hd, hc]; exact i.raster m (hc ▸ hm) (hc ▸ ht)⟩⟩

theorem keeps_setA (s : State) (v : Byte) : Keeps s (s.setA v) := .of_eq rfl rfl rfl rfl
theorem keeps_setX (s : State) (v : Byte) : Keeps s (s.setX v) := .of_eq rfl rfl rfl rfl
theorem keeps_setY (s : State) (v : Byte) : Keeps s (s.setY v) := .of_eq rfl rfl rfl rfl
theorem keeps_setSp (s : State) (v : Byte) : Keeps s (s.setSp v) := .of_eq rfl rfl rfl rfl
theorem keeps_setPc (s : State) (v : Word) : Keeps s (s.setPc v) := .of_eq rfl rfl rfl rfl
theorem keeps_setP (s : State) (v : Status) : Keeps s (s.setP v) := .of_eq rfl rfl rfl rfl
theorem keeps_retire (s : State) (i : Instr) (k : Nat) : Keeps s (s.retire i k) := .of_eq rfl rfl rfl rfl

theorem Vic.InFrame.of_eq {t : Timing} {v w : Vic} (h : v.InFrame t) (hl : w.rasterLine = v.rasterLine)
    (hc : w.cycleInLine = v.cycleInLine) : w.InFrame t :=
  ⟨hl ▸ h.line, hc ▸ h.cycle⟩

theorem keeps_memRead (s : State) (a : Word) : Keeps s (s.memRead a).2 :=
  ⟨rfl, rfl, fun i => ⟨i.ram, State.busRead_sound a i.dev, fun m hm ht => by
    have h := State.busRead_vic s a
    exact (i.raster m hm ht).of_eq (congrArg Vic.rasterLine h) (congrArg Vic.cycleInLine h)⟩⟩

theorem keeps_memWrite (s : State) (a : Word) (b : Byte) : Keeps s (s.memWrite a b) :=
  ⟨rfl, rfl, fun i => ⟨State.memWrite_ram_wf a b i.ram, State.busWrite_sound a b i.dev, fun m hm ht =>
    (i.raster m hm ht).of_eq (State.busWrite_position s a b).1 (State.busWrite_position s a b).2⟩⟩

theorem keeps_fetch (s : State) : Keeps s s.fetch.2 := (keeps_memRead s s.pc).trans (keeps_setPc _ _)

theorem keeps_read16 (s : State) (a : Word) : Keeps s (s.read16 a).2 :=
  (keeps_memRead s a).trans (keeps_memRead _ _)

theorem keeps_push (s : State) (v : Byte) : Keeps s (s.push v) := (keeps_memWrite s _ v).trans (keeps_setSp _ _)

theorem keeps_pull (s : State) : Keeps s s.pull.2 := (keeps_setSp s _).trans (keeps_memRead _ _)

theorem keeps_pushWord (s : State) (w : Word) : Keeps s (s.pushWord w) := (keeps_push s _).trans (keeps_push _ _)

theorem keeps_pullWord (s : State) : Keeps s s.pullWord.2 := (keeps_pull s).trans (keeps_pull _)

theorem keeps_takeException (s : State) (ret : Word) (image : Byte) (vector : Word) :
    Keeps s (s.takeException ret image vector) :=
  (((keeps_pushWord s ret).trans (keeps_push _ image)).trans (keeps_setP _ _)).trans
    ((keeps_read16 _ vector).trans (keeps_setPc _ _))

theorem keeps_returnFromException (s : State) : Keeps s s.returnFromException :=
  (((keeps_pull s).trans (keeps_setP _ _)).trans (keeps_pullWord _)).trans (keeps_setPc _ _)

theorem keeps_zeroPagePointer (s : State) (z : Byte) : Keeps s (zeroPagePointer s z).2 :=
  (keeps_memRead s _).trans (keeps_memRead _ _)

theorem keeps_effAddr (s : State) (m : MemOperand) : Keeps s (effAddr s m).st := by
  cases m with
  | indirectX b => exact keeps_zeroPagePointer s _
  | indirectY b => exact keeps_zeroPagePointer s _
  | zeroPage _ | zeroPageX _ | zeroPageY _ | absolute _ | absoluteX _ | absoluteY _ => exact Keeps.refl s

theorem keeps_readOperand (s : State) (o : ReadOperand) : Keeps s (readOperand s o).st := by
  cases o with
  | immediate b => exact Keeps.refl s
  | memory m => exact (keeps_effAddr s m).trans (keeps_memRead _ _)

theorem keeps_jumpTarget (s : State) (j : JumpOperand) : Keeps s (jumpTarget s j).2 := by
  cases j with
  | absolute w => exact Keeps.refl s
  | indirect w => exact (keeps_memRead s w).trans (keeps_memRead _ _)

/-! ### What the operand reads change: device state only -/

theorem zeroPagePointer_snd (s : State) (z : Byte) :
    (zeroPagePointer s z).2 = s.withDev (zeroPagePointer s z).2.dev := rfl

/-- Finding an effective address changes device state only. -/
theorem effAddr_st (s : State) (m : MemOperand) : (effAddr s m).st = s.withDev (effAddr s m).st.dev := by
  cases m <;> rfl

/-- Reading an operand changes device state only. -/
theorem readOperand_st (s : State) (o : ReadOperand) : (readOperand s o).st = s.withDev (readOperand s o).st.dev := by
  cases o with
  | immediate b => rfl
  | memory m =>
    have e := congrArg (fun t => State.withDev t (readOperand s (.memory m)).st.dev) (effAddr_st s m)
    simp only [State.withDev_withDev] at e
    exact e

/-- Finding a jump target changes device state only. -/
theorem jumpTarget_st (s : State) (j : JumpOperand) : (jumpTarget s j).2 = s.withDev (jumpTarget s j).2.dev := by
  cases j <;> rfl

/-! ### The operations on a machine without reader hooks -/

section
variable {s : State} (h : s.hooks.readers = [])
include h

theorem State.memRead_bare (a : Word) : s.memRead a = (s.ramByte a, s) := State.memRead_plain (by simp [h])

theorem zeroPagePointer_bare (z : Byte) :
    zeroPagePointer s z = (cat (s.ramByte (zext16 (z + 1))) (s.ramByte (zext16 z)), s) := by
  simp [zeroPagePointer, State.memRead_bare h]

theorem effAddr_bare_st (m : MemOperand) : (effAddr s m).st = s := by
  cases m <;> simp [effAddr, indexed, zeroPagePointer_bare h]

theorem readOperand_bare_st (o : ReadOperand) : (readOperand s o).st = s := by
  cases o <;> simp [readOperand, effAddr_bare_st h, State.memRead_bare h, -State.memRead_fst, -State.memRead_snd]

theorem State.read16_bare (a : Word) : s.read16 a = (cat (s.ramByte (a + 1)) (s.ramByte a), s) := by
  simp [State.read16, State.memRead_bare h, -State.memRead_fst, -State.memRead_snd]

theorem State.fetch_bare : s.fetch = (s.ramByte s.pc, s.setPc (s.pc + 1)) := by
  simp [State.fetch, State.memRead_bare h, -State.memRead_fst, -State.memRead_snd]

end

end Sys2Proof.Machine
end

