-- ==== Sys2Proof/Laws/Frames.lean ====
section
/-! SUPPORT. One lemma per field for the composite operations over the state: which fields each leaves as they were. -/

namespace Sys2Proof.Machine


/-! A write changes RAM and devices -/

section
variable (s : State) (a : Word) (b : Byte)
@[simp] theorem State.memWrite_cfg : (s.memWrite a b).cfg = s.cfg := rfl
@[simp] theorem State.memWrite_a : (s.memWrite a b).a = s.a := rfl
@[simp] theorem State.memWrite_x : (s.memWrite a b).x = s.x := rfl
@[simp] theorem State.memWrite_y : (s.memWrite a b).y = s.y := rfl
@[simp] theorem State.memWrite_sp : (s.memWrite a b).sp = s.sp := rfl
@[simp] theorem State.memWrite_pc : (s.memWrite a b).pc = s.pc := rfl
@[simp] theorem State.memWrite_p : (s.memWrite a b).p = s.p := rfl
@[simp] theorem State.memWrite_nmiLine : (s.memWrite a b).nmiLine = s.nmiLine := rfl
@[simp] theorem State.memWrite_nmiPending : (s.memWrite a b).nmiPending = s.nmiPending := rfl
@[simp] theorem State.memWrite_irqLine : (s.memWrite a b).irqLine = s.irqLine := rfl
@[simp] theorem State.memWrite_totalCycles : (s.memWrite a b).totalCycles = s.totalCycles := rfl
@[simp] theorem State.memWrite_instructionsExecuted : (s.memWrite a b).instructionsExecuted = s.instructionsExecuted := rfl
@[simp] theorem State.memWrite_stepCycles : (s.memWrite a b).stepCycles = s.stepCycles := rfl
@[simp] theorem State.memWrite_lastStep : (s.memWrite a b).lastStep = s.lastStep := rfl
@[simp] theorem State.memWrite_lastResult : (s.memWrite a b).lastResult = s.lastResult := rfl
@[simp] theorem State.memWrite_runStatus : (s.memWrite a b).runStatus = s.runStatus := rfl
@[simp] theorem State.memWrite_run : (s.memWrite a b).run = s.run := rfl
@[simp] theorem State.memWrite_lastTrigger : (s.memWrite a b).lastTrigger = s.lastTrigger := rfl
@[simp] theorem State.memWrite_hooks : (s.memWrite a b).hooks = s.hooks := rfl
@[simp] theorem State.memWrite_inputs : (s.memWrite a b).inputs = s.inputs := rfl
end

/-! A 16-bit read changes devices -/

section
variable (s : State) (a : Word)
@[simp] theorem State.read16_cfg : (s.read16 a).2.cfg = s.cfg := by simp [State.read16]
@[simp] theorem State.read16_a : (s.read16 a).2.a = s.a := by simp [State.read16]
@[simp] theorem State.read16_x : (s.read16 a).2.x = s.x := by simp [State.read16]
@[simp] theorem State.read16_y : (s.read16 a).2.y = s.y := by simp [State.read16]
@[simp] theorem State.read16_sp : (s.read16 a).2.sp = s.sp := by simp [State.read16]
@[simp] theorem State.read16_pc : (s.read16 a).2.pc = s.pc := by simp [State.read16]
@[simp] theorem State.read16_p : (s.read16 a).2.p = s.p := by simp [State.read16]
@[simp] theorem State.read16_nmiLine : (s.read16 a).2.nmiLine = s.nmiLine := by simp [State.read16]
@[simp] theorem State.read16_nmiPending : (s.read16 a).2.nmiPending = s.nmiPending := by simp [State.read16]
@[simp] theorem State.read16_irqLine : (s.read16 a).2.irqLine = s.irqLine := by simp [State.read16]
@[simp] theorem State.read16_totalCycles : (s.read16 a).2.totalCycles = s.totalCycles := by simp [State.read16]
@[simp] theorem State.read16_instructionsExecuted : (s.read16 a).2.instructionsExecuted = s.instructionsExecuted := by simp [State.read16]
@[simp] theorem State.read16_stepCycles : (s.read16 a).2.stepCycles = s.stepCycles := by simp [State.read16]
@[simp] theorem State.read16_lastStep : (s.read16 a).2.lastStep = s.lastStep := by simp [State.read16]
@[simp] theorem State.read16_lastResult : (s.read16 a).2.lastResult = s.lastResult := by simp [State.read16]
@[simp] theorem State.read16_runStatus : (s.read16 a).2.runStatus = s.runStatus := by simp [State.read16]
@[simp] theorem State.read16_run : (s.read16 a).2.run = s.run := by simp [State.read16]
@[simp] theorem State.read16_lastTrigger : (s.read16 a).2.lastTrigger = s.lastTrigger := by simp [State.read16]
@[simp] theorem State.read16_ram : (s.read16 a).2.ram = s.ram := by simp [State.read16]
@[simp] theorem State.read16_hooks : (s.read16 a).2.hooks = s.hooks := by simp [State.read16]
@[simp] theorem State.read16_inputs : (s.read16 a).2.inputs = s.inputs := by simp [State.read16]
end

/-! A fetch changes PC and devices -/

section
variable (s : State)
@[simp] theorem State.fetch_cfg : s.fetch.2.cfg = s.cfg := by simp [State.fetch]
@[simp] theorem State.fetch_a : s.fetch.2.a = s.a := by simp [State.fetch]
@[simp] theorem State.fetch_x : s.fetch.2.x = s.x := by simp [State.fetch]
@[simp] theorem State.fetch_y : s.fetch.2.y = s.y := by simp [State.fetch]
@[simp] theorem State.fetch_sp : s.fetch.2.sp = s.sp := by simp [State.fetch]
@[simp] theorem State.fetch_p : s.fetch.2.p = s.p := by simp [State.fetch]
@[simp] theorem State.fetch_nmiLine : s.fetch.2.nmiLine = s.nmiLine := by simp [State.fetch]
@[simp] theorem State.fetch_nmiPending : s.fetch.2.nmiPending = s.nmiPending := by simp [State.fetch]
@[simp] theorem State.fetch_irqLine : s.fetch.2.irqLine = s.irqLine := by simp [State.fetch]
@[simp] theorem State.fetch_totalCycles : s.fetch.2.totalCycles = s.totalCycles := by simp [State.fetch]
@[simp] theorem State.fetch_instructionsExecuted : s.fetch.2.instructionsExecuted = s.instructionsExecuted := by simp [State.fetch]
@[simp] theorem State.fetch_stepCycles : s.fetch.2.stepCycles = s.stepCycles := by simp [State.fetch]
@[simp] theorem State.fetch_lastStep : s.fetch.2.lastStep = s.lastStep := by simp [State.fetch]
@[simp] theorem State.fetch_lastResult : s.fetch.2.lastResult = s.lastResult := by simp [State.fetch]
@[simp] theorem State.fetch_runStatus : s.fetch.2.runStatus = s.runStatus := by simp [State.fetch]
@[simp] theorem State.fetch_run : s.fetch.2.run = s.run := by simp [State.fetch]
@[simp] theorem State.fetch_lastTrigger : s.fetch.2.lastTrigger = s.lastTrigger := by simp [State.fetch]
@[simp] theorem State.fetch_ram : s.fetch.2.ram = s.ram := by simp [State.fetch]
@[simp] theorem State.fetch_hooks : s.fetch.2.hooks = s.hooks := by simp [State.fetch]
@[simp] theorem State.fetch_inputs : s.fetch.2.inputs = s.inputs := by simp [State.fetch]
end

/-! A push changes SP, RAM and devices -/

section
variable (s : State) (v : Byte)
@[simp] theorem State.push_cfg : (s.push v).cfg = s.cfg := by simp [State.push]
@[simp] theorem State.push_a : (s.push v).a = s.a := by simp [State.push]
@[simp] theorem State.push_x : (s.push v).x = s.x := by simp [State.push]
@[simp] theorem State.push_y : (s.push v).y = s.y := by simp [State.push]
@[simp] theorem State.push_pc : (s.push v).pc = s.pc := by simp [State.push]
@[simp] theorem State.push_p : (s.push v).p = s.p := by simp [State.push]
@[simp] theorem State.push_nmiLine : (s.push v).nmiLine = s.nmiLine := by simp [State.push]
@[simp] theorem State.push_nmiPending : (s.push v).nmiPending = s.nmiPending := by simp [State.push]
@[simp] theorem State.push_irqLine : (s.push v).irqLine = s.irqLine := by simp [State.push]
@[simp] theorem State.push_totalCycles : (s.push v).totalCycles = s.totalCycles := by simp [State.push]
@[simp] theorem State.push_instructionsExecuted : (s.push v).instructionsExecuted = s.instructionsExecuted := by simp [State.push]
@[simp] theorem State.push_stepCycles : (s.push v).stepCycles = s.stepCycles := by simp [State.push]
@[simp] theorem State.push_lastStep : (s.push v).lastStep = s.lastStep := by simp [State.push]
@[simp] theorem State.push_lastResult : (s.push v).lastResult = s.lastResult := by simp [State.push]
@[simp] theorem State.push_runStatus : (s.push v).runStatus = s.runStatus := by simp [State.push]
@[simp] theorem State.push_run : (s.push v).run = s.run := by simp [State.push]
@[simp] theorem State.push_lastTrigger : (s.push v).lastTrigger = s.lastTrigger := by simp [State.push]
@[simp] theorem State.push_hooks : (s.push v).hooks = s.hooks := by simp [State.push]
@[simp] theorem State.push_inputs : (s.push v).inputs = s.inputs := by simp [State.push]
end

/-! A pull changes SP and devices -/

section
variable (s : State)
@[simp] theorem State.pull_cfg : s.pull.2.cfg = s.cfg := by simp [State.pull]
@[simp] theorem State.pull_a : s.pull.2.a = s.a := by simp [State.pull]
@[simp] theorem State.pull_x : s.pull.2.x = s.x := by simp [State.pull]
@[simp] theorem State.pull_y : s.pull.2.y = s.y := by simp [State.pull]
@[simp] theorem State.pull_pc : s.pull.2.pc = s.pc := by simp [State.pull]
@[simp] theorem State.pull_p : s.pull.2.p = s.p := by simp [State.pull]
@[simp] theorem State.pull_nmiLine : s.pull.2.nmiLine = s.nmiLine := by simp [State.pull]
@[simp] theorem State.pull_nmiPending : s.pull.2.nmiPending = s.nmiPending := by simp [State.pull]
@[simp] theorem State.pull_irqLine : s.pull.2.irqLine = s.irqLine := by simp [State.pull]
@[simp] theorem State.pull_totalCycles : s.pull.2.totalCycles = s.totalCycles := by simp [State.pull]
@[simp] theorem State.pull_instructionsExecuted : s.pull.2.instructionsExecuted = s.instructionsExecuted := by simp [State.pull]
@[simp] theorem State.pull_stepCycles : s.pull.2.stepCycles = s.stepCycles := by simp [State.pull]
@[simp] theorem State.pull_lastStep : s.pull.2.lastStep = s.lastStep := by simp [State.pull]
@[simp] theorem State.pull_lastResult : s.pull.2.lastResult = s.lastResult := by simp [State.pull]
@[simp] theorem State.pull_runStatus : s.pull.2.runStatus = s.runStatus := by simp [State.pull]
@[simp] theorem State.pull_run : s.pull.2.run = s.run := by simp [State.pull]
@[simp] theorem State.pull_lastTrigger : s.pull.2.lastTrigger = s.lastTrigger := by simp [State.pull]
@[simp] theorem State.pull_ram : s.pull.2.ram = s.ram := by simp [State.pull]
@[simp] theorem State.pull_hooks : s.pull.2.hooks = s.hooks := by simp [State.pull]
@[simp] theorem State.pull_inputs : s.pull.2.inputs = s.inputs := by simp [State.pull]
end

section
variable (s : State)
@[simp] theorem State.push_sp (v : Byte) : (s.push v).sp = s.sp - 1 := rfl
@[simp] theorem State.pull_sp : s.pull.2.sp = s.sp + 1 := rfl
end


/-! So do pushing and pulling a word -/

section
variable (s : State) (w : Word)
@[simp] theorem State.pushWord_cfg : (s.pushWord w).cfg = s.cfg := by simp [State.pushWord]
@[simp] theorem State.pushWord_a : (s.pushWord w).a = s.a := by simp [State.pushWord]
@[simp] theorem State.pushWord_x : (s.pushWord w).x = s.x := by simp [State.pushWord]
@[simp] theorem State.pushWord_y : (s.pushWord w).y = s.y := by simp [State.pushWord]
@[simp] theorem State.pushWord_pc : (s.pushWord w).pc = s.pc := by simp [State.pushWord]
@[simp] theorem State.pushWord_p : (s.pushWord w).p = s.p := by simp [State.pushWord]
@[simp] theorem State.pushWord_nmiLine : (s.pushWord w).nmiLine = s.nmiLine := by simp [State.pushWord]
@[simp] theorem State.pushWord_nmiPending : (s.pushWord w).nmiPending = s.nmiPending := by simp [State.pushWord]
@[simp] theorem State.pushWord_irqLine : (s.pushWord w).irqLine = s.irqLine := by simp [State.pushWord]
@[simp] theorem State.pushWord_totalCycles : (s.pushWord w).totalCycles = s.totalCycles := by simp [State.pushWord]
@[simp] theorem State.pushWord_instructionsExecuted : (s.pushWord w).instructionsExecuted = s.instructionsExecuted := by simp [State.pushWord]
@[simp] theorem State.pushWord_stepCycles : (s.pushWord w).stepCycles = s.stepCycles := by simp [State.pushWord]
@[simp] theorem State.pushWord_lastStep : (s.pushWord w).lastStep = s.lastStep := by simp [State.pushWord]
@[simp] theorem State.pushWord_lastResult : (s.pushWord w).lastResult = s.lastResult := by simp [State.pushWord]
@[simp] theorem State.pushWord_runStatus : (s.pushWord w).runStatus = s.runStatus := by simp [State.pushWord]
@[simp] theorem State.pushWord_run : (s.pushWord w).run = s.run := by simp [State.pushWord]
@[simp] theorem State.pushWord_lastTrigger : (s.pushWord w).lastTrigger = s.lastTrigger := by simp [State.pushWord]
@[simp] theorem State.pushWord_hooks : (s.pushWord w).hooks = s.hooks := by simp [State.pushWord]
@[simp] theorem State.pushWord_inputs : (s.pushWord w).inputs = s.inputs := by simp [State.pushWord]
end

/-! Pulling a word -/

section
variable (s : State)
@[simp] theorem State.pullWord_cfg : s.pullWord.2.cfg = s.cfg := by simp [State.pullWord]
@[simp] theorem State.pullWord_a : s.pullWord.2.a = s.a := by simp [State.pullWord]
@[simp] theorem State.pullWord_x : s.pullWord.2.x = s.x := by simp [State.pullWord]
@[simp] theorem State.pullWord_y : s.pullWord.2.y = s.y := by simp [State.pullWord]
@[simp] theorem State.pullWord_pc : s.pullWord.2.pc = s.pc := by simp [State.pullWord]
@[simp] theorem State.pullWord_p : s.pullWord.2.p = s.p := by simp [State.pullWord]
@[simp] theorem State.pullWord_nmiLine : s.pullWord.2.nmiLine = s.nmiLine := by simp [State.pullWord]
@[simp] theorem State.pullWord_nmiPending : s.pullWord.2.nmiPending = s.nmiPending := by simp [State.pullWord]
@[simp] theorem State.pullWord_irqLine : s.pullWord.2.irqLine = s.irqLine := by simp [State.pullWord]
@[simp] theorem State.pullWord_totalCycles : s.pullWord.2.totalCycles = s.totalCycles := by simp [State.pullWord]
@[simp] theorem State.pullWord_instructionsExecuted : s.pullWord.2.instructionsExecuted = s.instructionsExecuted := by simp [State.pullWord]
@[simp] theorem State.pullWord_stepCycles : s.pullWord.2.stepCycles = s.stepCycles := by simp [State.pullWord]
@[simp] theorem State.pullWord_lastStep : s.pullWord.2.lastStep = s.lastStep := by simp [State.pullWord]
@[simp] theorem State.pullWord_lastResult : s.pullWord.2.lastResult = s.lastResult := by simp [State.pullWord]
@[simp] theorem State.pullWord_runStatus : s.pullWord.2.runStatus = s.runStatus := by simp [State.pullWord]
@[simp] theorem State.pullWord_run : s.pullWord.2.run = s.run := by simp [State.pullWord]
@[simp] theorem State.pullWord_lastTrigger : s.pullWord.2.lastTrigger = s.lastTrigger := by simp [State.pullWord]
@[simp] theorem State.pullWord_ram : s.pullWord.2.ram = s.ram := by simp [State.pullWord]
@[simp] theorem State.pullWord_hooks : s.pullWord.2.hooks = s.hooks := by simp [State.pullWord]
@[simp] theorem State.pullWord_inputs : s.pullWord.2.inputs = s.inputs := by simp [State.pullWord]
end

/-! Exception entry -/

section
variable (s : State) (ret : Word) (image : Byte) (vector : Word)
@[simp] theorem State.takeException_cfg : (s.takeException ret image vector).cfg = s.cfg := by simp [State.takeException]
@[simp] theorem State.takeException_a : (s.takeException ret image vector).a = s.a := by simp [State.takeException]
@[simp] theorem State.takeException_x : (s.takeException ret image vector).x = s.x := by simp [State.takeException]
@[simp] theorem State.takeException_y : (s.takeException ret image vector).y = s.y := by simp [State.takeException]
@[simp] theorem State.takeException_nmiLine : (s.takeException ret image vector).nmiLine = s.nmiLine := by simp [State.takeException]
@[simp] theorem State.takeException_nmiPending : (s.takeException ret image vector).nmiPending = s.nmiPending := by simp [State.takeException]
@[simp] theorem State.takeException_irqLine : (s.takeException ret image vector).irqLine = s.irqLine := by simp [State.takeException]
@[simp] theorem State.takeException_totalCycles : (s.takeException ret image vector).totalCycles = s.totalCycles := by simp [State.takeException]
@[simp] theorem State.takeException_instructionsExecuted : (s.takeException ret image vector).instructionsExecuted = s.instructionsExecuted := by simp [State.takeException]
@[simp] theorem State.takeException_stepCycles : (s.takeException ret image vector).stepCycles = s.stepCycles := by simp [State.takeException]
@[simp] theorem State.takeException_lastStep : (s.takeException ret image vector).lastStep = s.lastStep := by simp [State.takeException]
@[simp] theorem State.takeException_lastResult : (s.takeException ret image vector).lastResult = s.lastResult := by simp [State.takeException]
@[simp] theorem State.takeException_runStatus : (s.takeException ret image vector).runStatus = s.runStatus := by simp [State.takeException]
@[simp] theorem State.takeException_run : (s.takeException ret image vector).run = s.run := by simp [State.takeException]
@[simp] theorem State.takeException_lastTrigger : (s.takeException ret image vector).lastTrigger = s.lastTrigger := by simp [State.takeException]
@[simp] theorem State.takeException_hooks : (s.takeException ret image vector).hooks = s.hooks := by simp [State.takeException]
@[simp] theorem State.takeException_inputs : (s.takeException ret image vector).inputs = s.inputs := by simp [State.takeException]
end

/-! The return from an exception -/

section
variable (s : State)
@[simp] theorem State.returnFromException_cfg : s.returnFromException.cfg = s.cfg := by simp [State.returnFromException]
@[simp] theorem State.returnFromException_a : s.returnFromException.a = s.a := by simp [State.returnFromException]
@[simp] theorem State.returnFromException_x : s.returnFromException.x = s.x := by simp [State.returnFromException]
@[simp] theorem State.returnFromException_y : s.returnFromException.y = s.y := by simp [State.returnFromException]
@[simp] theorem State.returnFromException_nmiLine : s.returnFromException.nmiLine = s.nmiLine := by simp [State.returnFromException]
@[simp] theorem State.returnFromException_nmiPending : s.returnFromException.nmiPending = s.nmiPending := by simp [State.returnFromException]
@[simp] theorem State.returnFromException_irqLine : s.returnFromException.irqLine = s.irqLine := by simp [State.returnFromException]
@[simp] theorem State.returnFromException_totalCycles : s.returnFromException.totalCycles = s.totalCycles := by simp [State.returnFromException]
@[simp] theorem State.returnFromException_instructionsExecuted : s.returnFromException.instructionsExecuted = s.instructionsExecuted := by simp [State.returnFromException]
@[simp] theorem State.returnFromException_stepCycles : s.returnFromException.stepCycles = s.stepCycles := by simp [State.returnFromException]
@[simp] theorem State.returnFromException_lastStep : s.returnFromException.lastStep = s.lastStep := by simp [State.returnFromException]
@[simp] theorem State.returnFromException_lastResult : s.returnFromException.lastResult = s.lastResult := by simp [State.returnFromException]
@[simp] theorem State.returnFromException_runStatus : s.returnFromException.runStatus = s.runStatus := by simp [State.returnFromException]
@[simp] theorem State.returnFromException_run : s.returnFromException.run = s.run := by simp [State.returnFromException]
@[simp] theorem State.returnFromException_lastTrigger : s.returnFromException.lastTrigger = s.lastTrigger := by simp [State.returnFromException]
@[simp] theorem State.returnFromException_ram : s.returnFromException.ram = s.ram := by simp [State.returnFromException]
@[simp] theorem State.returnFromException_hooks : s.returnFromException.hooks = s.hooks := by simp [State.returnFromException]
@[simp] theorem State.returnFromException_inputs : s.returnFromException.inputs = s.inputs := by simp [State.returnFromException]
end

/-! An effective address -/

section
variable (s : State) (m : MemOperand)
@[simp] theorem effAddr_cfg : (effAddr s m).st.cfg = s.cfg := (congrArg State.cfg (effAddr_st s m)).trans rfl
@[simp] theorem effAddr_a : (effAddr s m).st.a = s.a := (congrArg State.a (effAddr_st s m)).trans rfl
@[simp] theorem effAddr_x : (effAddr s m).st.x = s.x := (congrArg State.x (effAddr_st s m)).trans rfl
@[simp] theorem effAddr_y : (effAddr s m).st.y = s.y := (congrArg State.y (effAddr_st s m)).trans rfl
@[simp] theorem effAddr_sp : (effAddr s m).st.sp = s.sp := (congrArg State.sp (effAddr_st s m)).trans rfl
@[simp] theorem effAddr_pc : (effAddr s m).st.pc = s.pc := (congrArg State.pc (effAddr_st s m)).trans rfl
@[simp] theorem effAddr_p : (effAddr s m).st.p = s.p := (congrArg State.p (effAddr_st s m)).trans rfl
@[simp] theorem effAddr_nmiLine : (effAddr s m).st.nmiLine = s.nmiLine := (congrArg State.nmiLine (effAddr_st s m)).trans rfl
@[simp] theorem effAddr_nmiPending : (effAddr s m).st.nmiPending = s.nmiPending := (congrArg State.nmiPending (effAddr_st s m)).trans rfl
@[simp] theorem effAddr_irqLine : (effAddr s m).st.irqLine = s.irqLine := (congrArg State.irqLine (effAddr_st s m)).trans rfl
@[simp] theorem effAddr_totalCycles : (effAddr s m).st.totalCycles = s.totalCycles := (congrArg State.totalCycles (effAddr_st s m)).trans rfl
@[simp] theorem effAddr_instructionsExecuted : (effAddr s m).st.instructionsExecuted = s.instructionsExecuted := (congrArg State.instructionsExecuted (effAddr_st s m)).trans rfl
@[simp] theorem effAddr_stepCycles : (effAddr s m).st.stepCycles = s.stepCycles := (congrArg State.stepCycles (effAddr_st s m)).trans rfl
@[simp] theorem effAddr_lastStep : (effAddr s m).st.lastStep = s.lastStep := (congrArg State.lastStep (effAddr_st s m)).trans rfl
@[simp] theorem effAddr_lastResult : (effAddr s m).st.lastResult = s.lastResult := (congrArg State.lastResult (effAddr_st s m)).trans rfl
@[simp] theorem effAddr_runStatus : (effAddr s m).st.runStatus = s.runStatus := (congrArg State.runStatus (effAddr_st s m)).trans rfl
@[simp] theorem effAddr_run : (effAddr s m).st.run = s.run := (congrArg State.run (effAddr_st s m)).trans rfl
@[simp] theorem effAddr_lastTrigger : (effAddr s m).st.lastTrigger = s.lastTrigger := (congrArg State.lastTrigger (effAddr_st s m)).trans rfl
@[simp] theorem effAddr_ram : (effAddr s m).st.ram = s.ram := (congrArg State.ram (effAddr_st s m)).trans rfl
@[simp] theorem effAddr_hooks : (effAddr s m).st.hooks = s.hooks := (congrArg State.hooks (effAddr_st s m)).trans rfl
@[simp] theorem effAddr_inputs : (effAddr s m).st.inputs = s.inputs := (congrArg State.inputs (effAddr_st s m)).trans rfl
end

/-! A read operand -/

section
variable (s : State) (o : ReadOperand)
@[simp] theorem readOperand_cfg : (readOperand s o).st.cfg = s.cfg := (congrArg State.cfg (readOperand_st s o)).trans rfl
@[simp] theorem readOperand_a : (readOperand s o).st.a = s.a := (congrArg State.a (readOperand_st s o)).trans rfl
@[simp] theorem readOperand_x : (readOperand s o).st.x = s.x := (congrArg State.x (readOperand_st s o)).trans rfl
@[simp] theorem readOperand_y : (readOperand s o).st.y = s.y := (congrArg State.y (readOperand_st s o)).trans rfl
@[simp] theorem readOperand_sp : (readOperand s o).st.sp = s.sp := (congrArg State.sp (readOperand_st s o)).trans rfl
@[simp] theorem readOperand_pc : (readOperand s o).st.pc = s.pc := (congrArg State.pc (readOperand_st s o)).trans rfl
@[simp] theorem readOperand_p : (readOperand s o).st.p = s.p := (congrArg State.p (readOperand_st s o)).trans rfl
@[simp] theorem readOperand_nmiLine : (readOperand s o).st.nmiLine = s.nmiLine := (congrArg State.nmiLine (readOperand_st s o)).trans rfl
@[simp] theorem readOperand_nmiPending : (readOperand s o).st.nmiPending = s.nmiPending := (congrArg State.nmiPending (readOperand_st s o)).trans rfl
@[simp] theorem readOperand_irqLine : (readOperand s o).st.irqLine = s.irqLine := (congrArg State.irqLine (readOperand_st s o)).trans rfl
@[simp] theorem readOperand_totalCycles : (readOperand s o).st.totalCycles = s.totalCycles := (congrArg State.totalCycles (readOperand_st s o)).trans rfl
@[simp] theorem readOperand_instructionsExecuted : (readOperand s o).st.instructionsExecuted = s.instructionsExecuted := (congrArg State.instructionsExecuted (readOperand_st s o)).trans rfl
@[simp] theorem readOperand_stepCycles : (readOperand s o).st.stepCycles = s.stepCycles := (congrArg State.stepCycles (readOperand_st s o)).trans rfl
@[simp] theorem readOperand_lastStep : (readOperand s o).st.lastStep = s.lastStep := (congrArg State.lastStep (readOperand_st s o)).trans rfl
@[simp] theorem readOperand_lastResult : (readOperand s o).st.lastResult = s.lastResult := (congrArg State.lastResult (readOperand_st s o)).trans rfl
@[simp] theorem readOperand_runStatus : (readOperand s o).st.runStatus = s.runStatus := (congrArg State.runStatus (readOperand_st s o)).trans rfl
@[simp] theorem readOperand_run : (readOperand s o).st.run = s.run := (congrArg State.run (readOperand_st s o)).trans rfl
@[simp] theorem readOperand_lastTrigger : (readOperand s o).st.lastTrigger = s.lastTrigger := (congrArg State.lastTrigger (readOperand_st s o)).trans rfl
@[simp] theorem readOperand_ram : (readOperand s o).st.ram = s.ram := (congrArg State.ram (readOperand_st s o)).trans rfl
@[simp] theorem readOperand_hooks : (readOperand s o).st.hooks = s.hooks := (congrArg State.hooks (readOperand_st s o)).trans rfl
@[simp] theorem readOperand_inputs : (readOperand s o).st.inputs = s.inputs := (congrArg State.inputs (readOperand_st s o)).trans rfl
end

/-! A jump target -/

section
variable (s : State) (j : JumpOperand)
@[simp] theorem jumpTarget_cfg : (jumpTarget s j).2.cfg = s.cfg := (congrArg State.cfg (jumpTarget_st s j)).trans rfl
@[simp] theorem jumpTarget_a : (jumpTarget s j).2.a = s.a := (congrArg State.a (jumpTarget_st s j)).trans rfl
@[simp] theorem jumpTarget_x : (jumpTarget s j).2.x = s.x := (congrArg State.x (jumpTarget_st s j)).trans rfl
@[simp] theorem jumpTarget_y : (jumpTarget s j).2.y = s.y := (congrArg State.y (jumpTarget_st s j)).trans rfl
@[simp] theorem jumpTarget_sp : (jumpTarget s j).2.sp = s.sp := (congrArg State.sp (jumpTarget_st s j)).trans rfl
@[simp] theorem jumpTarget_pc : (jumpTarget s j).2.pc = s.pc := (congrArg State.pc (jumpTarget_st s j)).trans rfl
@[simp] theorem jumpTarget_p : (jumpTarget s j).2.p = s.p := (congrArg State.p (jumpTarget_st s j)).trans rfl
@[simp] theorem jumpTarget_nmiLine : (jumpTarget s j).2.nmiLine = s.nmiLine := (congrArg State.nmiLine (jumpTarget_st s j)).trans rfl
@[simp] theorem jumpTarget_nmiPending : (jumpTarget s j).2.nmiPending = s.nmiPending := (congrArg State.nmiPending (jumpTarget_st s j)).trans rfl
@[simp] theorem jumpTarget_irqLine : (jumpTarget s j).2.irqLine = s.irqLine := (congrArg State.irqLine (jumpTarget_st s j)).trans rfl
@[simp] theorem jumpTarget_totalCycles : (jumpTarget s j).2.totalCycles = s.totalCycles := (congrArg State.totalCycles (jumpTarget_st s j)).trans rfl
@[simp] theorem jumpTarget_instructionsExecuted : (jumpTarget s j).2.instructionsExecuted = s.instructionsExecuted := (congrArg State.instructionsExecuted (jumpTarget_st s j)).trans rfl
@[simp] theorem jumpTarget_stepCycles : (jumpTarget s j).2.stepCycles = s.stepCycles := (congrArg State.stepCycles (jumpTarget_st s j)).trans rfl
@[simp] theorem jumpTarget_lastStep : (jumpTarget s j).2.lastStep = s.lastStep := (congrArg State.lastStep (jumpTarget_st s j)).trans rfl
@[simp] theorem jumpTarget_lastResult : (jumpTarget s j).2.lastResult = s.lastResult := (congrArg State.lastResult (jumpTarget_st s j)).trans rfl
@[simp] theorem jumpTarget_runStatus : (jumpTarget s j).2.runStatus = s.runStatus := (congrArg State.runStatus (jumpTarget_st s j)).trans rfl
@[simp] theorem jumpTarget_run : (jumpTarget s j).2.run = s.run := (congrArg State.run (jumpTarget_st s j)).trans rfl
@[simp] theorem jumpTarget_lastTrigger : (jumpTarget s j).2.lastTrigger = s.lastTrigger := (congrArg State.lastTrigger (jumpTarget_st s j)).trans rfl
@[simp] theorem jumpTarget_ram : (jumpTarget s j).2.ram = s.ram := (congrArg State.ram (jumpTarget_st s j)).trans rfl
@[simp] theorem jumpTarget_hooks : (jumpTarget s j).2.hooks = s.hooks := (congrArg State.hooks (jumpTarget_st s j)).trans rfl
@[simp] theorem jumpTarget_inputs : (jumpTarget s j).2.inputs = s.inputs := (congrArg State.inputs (jumpTarget_st s j)).trans rfl
end

/-! ### RAM bytes of the operations that store nothing -/

section
variable (s : State) (c : Word)
@[simp] theorem State.setA_ramByte (v : Byte) : (s.setA v).ramByte c = s.ramByte c := rfl
@[simp] theorem State.setX_ramByte (v : Byte) : (s.setX v).ramByte c = s.ramByte c := rfl
@[simp] theorem State.setY_ramByte (v : Byte) : (s.setY v).ramByte c = s.ramByte c := rfl
@[simp] theorem State.setSp_ramByte (v : Byte) : (s.setSp v).ramByte c = s.ramByte c := rfl
@[simp] theorem State.setPc_ramByte (v : Word) : (s.setPc v).ramByte c = s.ramByte c := rfl
@[simp] theorem State.setP_ramByte (v : Status) : (s.setP v).ramByte c = s.ramByte c := rfl
@[simp] theorem State.withDev_ramByte (v : Devices) : (s.withDev v).ramByte c = s.ramByte c := rfl
@[simp] theorem State.retire_ramByte (i : Instr) (k : Nat) : (s.retire i k).ramByte c = s.ramByte c := rfl
@[simp] theorem State.read16_ramByte (a : Word) : (s.read16 a).2.ramByte c = s.ramByte c := by simp [State.ramByte]
@[simp] theorem State.fetch_ramByte : s.fetch.2.ramByte c = s.ramByte c := by simp [State.ramByte]
@[simp] theorem State.pull_ramByte : s.pull.2.ramByte c = s.ramByte c := by simp [State.ramByte]
@[simp] theorem State.pullWord_ramByte : s.pullWord.2.ramByte c = s.ramByte c := by simp [State.ramByte]
@[simp] theorem State.returnFromException_ramByte : s.returnFromException.ramByte c = s.ramByte c := by simp [State.ramByte]
@[simp] theorem effAddr_ramByte (m : MemOperand) : (effAddr s m).st.ramByte c = s.ramByte c := by simp [State.ramByte]
@[simp] theorem readOperand_ramByte (o : ReadOperand) : (readOperand s o).st.ramByte c = s.ramByte c := by simp [State.ramByte]
@[simp] theorem jumpTarget_ramByte (j : JumpOperand) : (jumpTarget s j).2.ramByte c = s.ramByte c := by simp [State.ramByte]
end

/-! ### The stack pointer (R40) -/

section
variable (s : State)
theorem State.pushWord_sp (w : Word) : (s.pushWord w).sp = s.sp - 1 - 1 := by simp [State.pushWord]
theorem State.pullWord_sp : s.pullWord.2.sp = s.sp + 1 + 1 := by simp [State.pullWord]
theorem State.takeException_sp (ret : Word) (image : Byte) (vector : Word) :
    (s.takeException ret image vector).sp = s.sp - 1 - 1 - 1 := by simp [State.takeException, State.pushWord_sp]
theorem State.returnFromException_sp : s.returnFromException.sp = s.sp + 1 + 1 + 1 := by
  simp [State.returnFromException, State.pullWord_sp]
theorem State.takeException_p (ret : Word) (image : Byte) (vector : Word) :
    (s.takeException ret image vector).p = { s.p with i := true } := by simp [State.takeException]
end

/-! ### RAM after a push -/

/-- R40: the pushed byte, where the stack byte is plain RAM. -/
theorem State.push_ramByte_same {s : State} (v : Byte) (hw : hookAt s.hooks.writers (stackAddr s.sp).toNat = none)
    (h : s.ram.wf ramSize = true) : (s.push v).ramByte (stackAddr s.sp) = v :=
  State.memWrite_ramByte_same v hw h

/-- R40: every other byte of RAM after a push. -/
theorem State.push_ramByte_other (s : State) {c : Word} (v : Byte) (h : c ≠ stackAddr s.sp) :
    (s.push v).ramByte c = s.ramByte c :=
  State.memWrite_ramByte_other s v h

theorem State.push_ram_wf {s : State} (v : Byte) (h : s.ram.wf ramSize = true) : (s.push v).ram.wf ramSize = true :=
  State.memWrite_ram_wf _ v h

/-- R41: the bytes of RAM after a word is pushed: the high byte at SP, the low byte below it, every other as before. -/
theorem State.pushWord_ramByte_other (s : State) {c : Word} (w : Word) (h0 : c ≠ stackAddr s.sp)
    (h1 : c ≠ stackAddr (s.sp - 1)) : (s.pushWord w).ramByte c = s.ramByte c := by
  rw [State.pushWord, State.push_ramByte_other _ _ (by simpa using h1), State.push_ramByte_other _ _ h0]

theorem stackAddr_pred_ne (sp : Byte) : stackAddr sp ≠ stackAddr (sp - 1) := by
  intro h
  have e := stackAddr_injective h
  revert e
  revert sp
  decide

theorem State.pushWord_ramByte_hi {s : State} (w : Word) (hw : hookAt s.hooks.writers (stackAddr s.sp).toNat = none)
    (h : s.ram.wf ramSize = true) : (s.pushWord w).ramByte (stackAddr s.sp) = hi w := by
  rw [State.pushWord, State.push_ramByte_other _ _ (by simpa using stackAddr_pred_ne s.sp), State.push_ramByte_same _ hw h]

theorem State.pushWord_ramByte_lo {s : State} (w : Word)
    (hw : hookAt s.hooks.writers (stackAddr (s.sp - 1)).toNat = none) (h : s.ram.wf ramSize = true) :
    (s.pushWord w).ramByte (stackAddr (s.sp - 1)) = lo w := by
  have e := State.push_ramByte_same (s := s.push (hi w)) (lo w) (by simpa using hw) (State.push_ram_wf _ h)
  simpa [State.pushWord] using e

/-- R40: a pull reads the stack byte above SP, where it is plain RAM. -/
theorem State.pull_plain {s : State} (h : hookAt s.hooks.readers (stackAddr (s.sp + 1)).toNat = none) :
    s.pull = (s.ramByte (stackAddr (s.sp + 1)), s.setSp (s.sp + 1)) :=
  State.memRead_plain (s := s.setSp (s.sp + 1)) h

end Sys2Proof.Machine
end

