-- ==== Sys2Proof/Laws/PerInstr.lean ====
section
/-! SUPPORT. What holds of every instruction as syntax, one lemma per constructor. `EncodedLength`: an instruction is
encoded in as many bytes as its addressing mode says (R57). -/

namespace Sys2Proof.Laws

theorem memOperand_bytes_length (m : MemOperand) : m.bytes.length + 1 = modeLength m.mode := by cases m <;> rfl

theorem readOperand_bytes_length (o : ReadOperand) : o.bytes.length + 1 = modeLength o.mode := by
  cases o with
  | immediate b => rfl
  | memory m => exact memOperand_bytes_length m

theorem shiftOperand_bytes_length (o : ShiftOperand) : o.bytes.length + 1 = modeLength o.mode := by
  cases o with
  | accumulator => rfl
  | memory m => exact memOperand_bytes_length m

theorem jumpOperand_bytes_length (j : JumpOperand) : j.bytes.length + 1 = modeLength j.mode := by cases j <;> rfl

/-- The encoding of an instruction has the length of its mode. -/
def EncodedLength.Statement (i : Instr) : Prop := (encode i).length = modeLength i.mode

theorem EncodedLength.lda (o : ReadOperand) : EncodedLength.Statement (.lda o) := readOperand_bytes_length o
theorem EncodedLength.ldx (o : ReadOperand) : EncodedLength.Statement (.ldx o) := readOperand_bytes_length o
theorem EncodedLength.ldy (o : ReadOperand) : EncodedLength.Statement (.ldy o) := readOperand_bytes_length o
theorem EncodedLength.sta (m : MemOperand) : EncodedLength.Statement (.sta m) := memOperand_bytes_length m
theorem EncodedLength.stx (m : MemOperand) : EncodedLength.Statement (.stx m) := memOperand_bytes_length m
theorem EncodedLength.sty (m : MemOperand) : EncodedLength.Statement (.sty m) := memOperand_bytes_length m
theorem EncodedLength.tax : EncodedLength.Statement .tax := rfl
theorem EncodedLength.tay : EncodedLength.Statement .tay := rfl
theorem EncodedLength.txa : EncodedLength.Statement .txa := rfl
theorem EncodedLength.tya : EncodedLength.Statement .tya := rfl
theorem EncodedLength.tsx : EncodedLength.Statement .tsx := rfl
theorem EncodedLength.txs : EncodedLength.Statement .txs := rfl
theorem EncodedLength.pha : EncodedLength.Statement .pha := rfl
theorem EncodedLength.php : EncodedLength.Statement .php := rfl
theorem EncodedLength.pla : EncodedLength.Statement .pla := rfl
theorem EncodedLength.plp : EncodedLength.Statement .plp := rfl
theorem EncodedLength.adc (o : ReadOperand) : EncodedLength.Statement (.adc o) := readOperand_bytes_length o
theorem EncodedLength.sbc (o : ReadOperand) : EncodedLength.Statement (.sbc o) := readOperand_bytes_length o
theorem EncodedLength.cmp (o : ReadOperand) : EncodedLength.Statement (.cmp o) := readOperand_bytes_length o
theorem EncodedLength.cpx (o : ReadOperand) : EncodedLength.Statement (.cpx o) := readOperand_bytes_length o
theorem EncodedLength.cpy (o : ReadOperand) : EncodedLength.Statement (.cpy o) := readOperand_bytes_length o
theorem EncodedLength.inc (m : MemOperand) : EncodedLength.Statement (.inc m) := memOperand_bytes_length m
theorem EncodedLength.dec (m : MemOperand) : EncodedLength.Statement (.dec m) := memOperand_bytes_length m
theorem EncodedLength.inx : EncodedLength.Statement .inx := rfl
theorem EncodedLength.iny : EncodedLength.Statement .iny := rfl
theorem EncodedLength.dex : EncodedLength.Statement .dex := rfl
theorem EncodedLength.dey : EncodedLength.Statement .dey := rfl
theorem EncodedLength.and (o : ReadOperand) : EncodedLength.Statement (.and o) := readOperand_bytes_length o
theorem EncodedLength.ora (o : ReadOperand) : EncodedLength.Statement (.ora o) := readOperand_bytes_length o
theorem EncodedLength.eor (o : ReadOperand) : EncodedLength.Statement (.eor o) := readOperand_bytes_length o
theorem EncodedLength.bit (o : ReadOperand) : EncodedLength.Statement (.bit o) := readOperand_bytes_length o
theorem EncodedLength.asl (o : ShiftOperand) : EncodedLength.Statement (.asl o) := shiftOperand_bytes_length o
theorem EncodedLength.lsr (o : ShiftOperand) : EncodedLength.Statement (.lsr o) := shiftOperand_bytes_length o
theorem EncodedLength.rol (o : ShiftOperand) : EncodedLength.Statement (.rol o) := shiftOperand_bytes_length o
theorem EncodedLength.ror (o : ShiftOperand) : EncodedLength.Statement (.ror o) := shiftOperand_bytes_length o
theorem EncodedLength.jmp (j : JumpOperand) : EncodedLength.Statement (.jmp j) := jumpOperand_bytes_length j
theorem EncodedLength.jsr (w : Word) : EncodedLength.Statement (.jsr w) := rfl
theorem EncodedLength.rts : EncodedLength.Statement .rts := rfl
theorem EncodedLength.rti : EncodedLength.Statement .rti := rfl
theorem EncodedLength.bpl (off : Byte) : EncodedLength.Statement (.bpl off) := rfl
theorem EncodedLength.bmi (off : Byte) : EncodedLength.Statement (.bmi off) := rfl
theorem EncodedLength.bvc (off : Byte) : EncodedLength.Statement (.bvc off) := rfl
theorem EncodedLength.bvs (off : Byte) : EncodedLength.Statement (.bvs off) := rfl
theorem EncodedLength.bcc (off : Byte) : EncodedLength.Statement (.bcc off) := rfl
theorem EncodedLength.bcs (off : Byte) : EncodedLength.Statement (.bcs off) := rfl
theorem EncodedLength.bne (off : Byte) : EncodedLength.Statement (.bne off) := rfl
theorem EncodedLength.beq (off : Byte) : EncodedLength.Statement (.beq off) := rfl
theorem EncodedLength.brk : EncodedLength.Statement .brk := rfl
theorem EncodedLength.nop : EncodedLength.Statement .nop := rfl
theorem EncodedLength.clc : EncodedLength.Statement .clc := rfl
theorem EncodedLength.cld : EncodedLength.Statement .cld := rfl
theorem EncodedLength.cli : EncodedLength.Statement .cli := rfl
theorem EncodedLength.clv : EncodedLength.Statement .clv := rfl
theorem EncodedLength.sec : EncodedLength.Statement .sec := rfl
theorem EncodedLength.sed : EncodedLength.Statement .sed := rfl
theorem EncodedLength.sei : EncodedLength.Statement .sei := rfl
theorem EncodedLength.undefined (op : Byte) : EncodedLength.Statement (.undefined op) := rfl

end Sys2Proof.Laws
end

