-- ==== Sys2Proof/Tests/Slice0.lean ====
section
/-! SUPPORT. Tests: what well-formedness refuses, words decoded, the spec's own test vectors (95_test_vectors.md), each on one
step of a small state, and for every statement with hypotheses a state and operands that meet them. Expected results are
the spec's, or worked out by hand from its rules. -/

namespace Sys2Proof.Tests

open Sys2Proof.Machine Sys2Proof.Spec

/-! ### Helpers -/

/-- The start state of 95_test_vectors.md: code at $0200, PC = $0200, memory not listed $00. -/
def start (a x y sp p : Byte) (cells : List (Nat × Byte)) (code : List Byte) : State :=
  { State.reset with
    a := a
    x := x
    y := y
    sp := sp
    p := statusOfByte p
    pc := 0x0200
    ram := layBytes (Mem.ofCells ramSize cells) 0x0200 code }

/-- One step gives these registers, this P, this PC, these cycles, and these cells in RAM. -/
def gives (s : State) (a x y sp p : Byte) (pc : Word) (cycles : Nat) (cells : List (Nat × Byte)) : Bool :=
  match step s with
  | .next t =>
    t.a == a && t.x == x && t.y == y && t.sp == sp && t.p.toByte == p && t.pc == pc && t.totalCycles == cycles
      && t.lastResult.cycles == cycles && cells.all (fun c => t.ram.read c.1 == c.2)
  | .fault _ | .refused _ => false

/-! ### Well-formedness refuses the forms the opcode map has no cell for (R61) -/

theorem test_wf_accumulatorGroup : (Instr.lda (.memory (.zeroPageY 0))).wf = false := by decide
theorem test_wf_sta : (Instr.sta (.zeroPageY 0)).wf = false := by decide
theorem test_wf_byY : (Instr.ldx (.memory (.zeroPageX 0))).wf = false := by decide
theorem test_wf_byX : (Instr.ldy (.memory (.absoluteY 0))).wf = false := by decide
theorem test_wf_direct : (Instr.cpx (.memory (.absoluteX 0))).wf = false := by decide
theorem test_wf_memoryOnly : (Instr.bit (.immediate 0)).wf = false := by decide
theorem test_wf_bitDirect : (Instr.bit (.memory (.zeroPageX 0))).wf = false := by decide
theorem test_wf_forStx : (Instr.stx (.absoluteY 0)).wf = false := by decide
theorem test_wf_forSty : (Instr.sty (.absoluteX 0)).wf = false := by decide
theorem test_wf_modify : (Instr.inc (.indirectX 0)).wf = false := by decide
theorem test_wf_shift : (Instr.asl (.memory (.absoluteY 0))).wf = false := by decide
theorem test_wf_undefined : (Instr.undefined 0xEA).wf = false := by decide

/-! ### Words written out from R61's map, operand bytes in address order (R60) -/

/-- Each word decodes to its instruction, with no byte left. -/
def decodesAll (rows : List (List Byte × Instr)) : Bool :=
  rows.all fun r => match decode r.1 with
    | .ok (i, []) => i == r.2
    | .ok (_, _ :: _) | .error _ => false

theorem test_decode_loads : decodesAll
    [([0xA1, 0xF7], .lda (.memory (.indirectX 0xF7))), ([0xA5, 0xF7], .lda (.memory (.zeroPage 0xF7))),
     ([0xA9, 0xF7], .lda (.immediate 0xF7)), ([0xAD, 0x34, 0x12], .lda (.memory (.absolute 0x1234))),
     ([0xB1, 0xF7], .lda (.memory (.indirectY 0xF7))), ([0xB5, 0xF7], .lda (.memory (.zeroPageX 0xF7))),
     ([0xB9, 0x34, 0x12], .lda (.memory (.absoluteY 0x1234))),
     ([0xBD, 0x34, 0x12], .lda (.memory (.absoluteX 0x1234))), ([0xA2, 0xF7], .ldx (.immediate 0xF7)),
     ([0xA6, 0xF7], .ldx (.memory (.zeroPage 0xF7))), ([0xAE, 0x34, 0x12], .ldx (.memory (.absolute 0x1234))),
     ([0xB6, 0xF7], .ldx (.memory (.zeroPageY 0xF7))), ([0xBE, 0x34, 0x12], .ldx (.memory (.absoluteY 0x1234))),
     ([0xA0, 0xF7], .ldy (.immediate 0xF7)), ([0xA4, 0xF7], .ldy (.memory (.zeroPage 0xF7))),
     ([0xAC, 0x34, 0x12], .ldy (.memory (.absolute 0x1234))), ([0xB4, 0xF7], .ldy (.memory (.zeroPageX 0xF7))),
     ([0xBC, 0x34, 0x12], .ldy (.memory (.absoluteX 0x1234)))] = true := by decide

theorem test_decode_stores : decodesAll
    [([0x81, 0xF7], .sta (.indirectX 0xF7)), ([0x85, 0xF7], .sta (.zeroPage 0xF7)),
     ([0x8D, 0x34, 0x12], .sta (.absolute 0x1234)), ([0x91, 0xF7], .sta (.indirectY 0xF7)),
     ([0x95, 0xF7], .sta (.zeroPageX 0xF7)), ([0x99, 0x34, 0x12], .sta (.absoluteY 0x1234)),
     ([0x9D, 0x34, 0x12], .sta (.absoluteX 0x1234)), ([0x86, 0xF7], .stx (.zeroPage 0xF7)),
     ([0x8E, 0x34, 0x12], .stx (.absolute 0x1234)), ([0x96, 0xF7], .stx (.zeroPageY 0xF7)),
     ([0x84, 0xF7], .sty (.zeroPage 0xF7)), ([0x8C, 0x34, 0x12], .sty (.absolute 0x1234)),
     ([0x94, 0xF7], .sty (.zeroPageX 0xF7))] = true := by decide

theorem test_decode_transfers_stack : decodesAll
    [([0xAA], .tax), ([0xA8], .tay), ([0x8A], .txa), ([0x98], .tya), ([0xBA], .tsx), ([0x9A], .txs),
     ([0x48], .pha), ([0x08], .php), ([0x68], .pla), ([0x28], .plp)] = true := by decide

theorem test_decode_add_subtract : decodesAll
    [([0x61, 0xF7], .adc (.memory (.indirectX 0xF7))), ([0x65, 0xF7], .adc (.memory (.zeroPage 0xF7))),
     ([0x69, 0xF7], .adc (.immediate 0xF7)), ([0x6D, 0x34, 0x12], .adc (.memory (.absolute 0x1234))),
     ([0x71, 0xF7], .adc (.memory (.indirectY 0xF7))), ([0x75, 0xF7], .adc (.memory (.zeroPageX 0xF7))),
     ([0x79, 0x34, 0x12], .adc (.memory (.absoluteY 0x1234))),
     ([0x7D, 0x34, 0x12], .adc (.memory (.absoluteX 0x1234))), ([0xE1, 0xF7], .sbc (.memory (.indirectX 0xF7))),
     ([0xE5, 0xF7], .sbc (.memory (.zeroPage 0xF7))), ([0xE9, 0xF7], .sbc (.immediate 0xF7)),
     ([0xED, 0x34, 0x12], .sbc (.memory (.absolute 0x1234))), ([0xF1, 0xF7], .sbc (.memory (.indirectY 0xF7))),
     ([0xF5, 0xF7], .sbc (.memory (.zeroPageX 0xF7))), ([0xF9, 0x34, 0x12], .sbc (.memory (.absoluteY 0x1234))),
     ([0xFD, 0x34, 0x12], .sbc (.memory (.absoluteX 0x1234)))] = true := by decide

theorem test_decode_compare : decodesAll
    [([0xC1, 0xF7], .cmp (.memory (.indirectX 0xF7))), ([0xC5, 0xF7], .cmp (.memory (.zeroPage 0xF7))),
     ([0xC9, 0xF7], .cmp (.immediate 0xF7)), ([0xCD, 0x34, 0x12], .cmp (.memory (.absolute 0x1234))),
     ([0xD1, 0xF7], .cmp (.memory (.indirectY 0xF7))), ([0xD5, 0xF7], .cmp (.memory (.zeroPageX 0xF7))),
     ([0xD9, 0x34, 0x12], .cmp (.memory (.absoluteY 0x1234))),
     ([0xDD, 0x34, 0x12], .cmp (.memory (.absoluteX 0x1234))), ([0xE0, 0xF7], .cpx (.immediate 0xF7)),
     ([0xE4, 0xF7], .cpx (.memory (.zeroPage 0xF7))), ([0xEC, 0x34, 0x12], .cpx (.memory (.absolute 0x1234))),
     ([0xC0, 0xF7], .cpy (.immediate 0xF7)), ([0xC4, 0xF7], .cpy (.memory (.zeroPage 0xF7))),
     ([0xCC, 0x34, 0x12], .cpy (.memory (.absolute 0x1234)))] = true := by decide

theorem test_decode_incDec : decodesAll
    [([0xE6, 0xF7], .inc (.zeroPage 0xF7)), ([0xEE, 0x34, 0x12], .inc (.absolute 0x1234)),
     ([0xF6, 0xF7], .inc (.zeroPageX 0xF7)), ([0xFE, 0x34, 0x12], .inc (.absoluteX 0x1234)),
     ([0xC6, 0xF7], .dec (.zeroPage 0xF7)), ([0xCE, 0x34, 0x12], .dec (.absolute 0x1234)),
     ([0xD6, 0xF7], .dec (.zeroPageX 0xF7)), ([0xDE, 0x34, 0x12], .dec (.absoluteX 0x1234)), ([0xE8], .inx),
     ([0xC8], .iny), ([0xCA], .dex), ([0x88], .dey)] = true := by decide

theorem test_decode_logic : decodesAll
    [([0x21, 0xF7], .and (.memory (.indirectX 0xF7))), ([0x25, 0xF7], .and (.memory (.zeroPage 0xF7))),
     ([0x29, 0xF7], .and (.immediate 0xF7)), ([0x2D, 0x34, 0x12], .and (.memory (.absolute 0x1234))),
     ([0x31, 0xF7], .and (.memory (.indirectY 0xF7))), ([0x35, 0xF7], .and (.memory (.zeroPageX 0xF7))),
     ([0x39, 0x34, 0x12], .and (.memory (.absoluteY 0x1234))),
     ([0x3D, 0x34, 0x12], .and (.memory (.absoluteX 0x1234))), ([0x01, 0xF7], .ora (.memory (.indirectX 0xF7))),
     ([0x05, 0xF7], .ora (.memory (.zeroPage 0xF7))), ([0x09, 0xF7], .ora (.immediate 0xF7)),
     ([0x0D, 0x34, 0x12], .ora (.memory (.absolute 0x1234))), ([0x11, 0xF7], .ora (.memory (.indirectY 0xF7))),
     ([0x15, 0xF7], .ora (.memory (.zeroPageX 0xF7))), ([0x19, 0x34, 0x12], .ora (.memory (.absoluteY 0x1234))),
     ([0x1D, 0x34, 0x12], .ora (.memory (.absoluteX 0x1234))), ([0x41, 0xF7], .eor (.memory (.indirectX 0xF7))),
     ([0x45, 0xF7], .eor (.memory (.zeroPage 0xF7))), ([0x49, 0xF7], .eor (.immediate 0xF7)),
     ([0x4D, 0x34, 0x12], .eor (.memory (.absolute 0x1234))), ([0x51, 0xF7], .eor (.memory (.indirectY 0xF7))),
     ([0x55, 0xF7], .eor (.memory (.zeroPageX 0xF7))), ([0x59, 0x34, 0x12], .eor (.memory (.absoluteY 0x1234))),
     ([0x5D, 0x34, 0x12], .eor (.memory (.absoluteX 0x1234))), ([0x24, 0xF7], .bit (.memory (.zeroPage 0xF7))),
     ([0x2C, 0x34, 0x12], .bit (.memory (.absolute 0x1234)))] = true := by decide

theorem test_decode_shifts : decodesAll
    [([0x06, 0xF7], .asl (.memory (.zeroPage 0xF7))), ([0x0A], .asl .accumulator),
     ([0x0E, 0x34, 0x12], .asl (.memory (.absolute 0x1234))), ([0x16, 0xF7], .asl (.memory (.zeroPageX 0xF7))),
     ([0x1E, 0x34, 0x12], .asl (.memory (.absoluteX 0x1234))), ([0x46, 0xF7], .lsr (.memory (.zeroPage 0xF7))),
     ([0x4A], .lsr .accumulator), ([0x4E, 0x34, 0x12], .lsr (.memory (.absolute 0x1234))),
     ([0x56, 0xF7], .lsr (.memory (.zeroPageX 0xF7))), ([0x5E, 0x34, 0x12], .lsr (.memory (.absoluteX 0x1234))),
     ([0x26, 0xF7], .rol (.memory (.zeroPage 0xF7))), ([0x2A], .rol .accumulator),
     ([0x2E, 0x34, 0x12], .rol (.memory (.absolute 0x1234))), ([0x36, 0xF7], .rol (.memory (.zeroPageX 0xF7))),
     ([0x3E, 0x34, 0x12], .rol (.memory (.absoluteX 0x1234))), ([0x66, 0xF7], .ror (.memory (.zeroPage 0xF7))),
     ([0x6A], .ror .accumulator), ([0x6E, 0x34, 0x12], .ror (.memory (.absolute 0x1234))),
     ([0x76, 0xF7], .ror (.memory (.zeroPageX 0xF7))), ([0x7E, 0x34, 0x12], .ror (.memory (.absoluteX 0x1234)))] = true := by decide

theorem test_decode_control : decodesAll
    [([0x4C, 0x34, 0x12], .jmp (.absolute 0x1234)), ([0x6C, 0x34, 0x12], .jmp (.indirect 0x1234)),
     ([0x20, 0x34, 0x12], .jsr 0x1234), ([0x60], .rts), ([0x40], .rti), ([0x10, 0xF7], .bpl 0xF7),
     ([0x30, 0xF7], .bmi 0xF7), ([0x50, 0xF7], .bvc 0xF7), ([0x70, 0xF7], .bvs 0xF7), ([0x90, 0xF7], .bcc 0xF7),
     ([0xB0, 0xF7], .bcs 0xF7), ([0xD0, 0xF7], .bne 0xF7), ([0xF0, 0xF7], .beq 0xF7), ([0x00], .brk),
     ([0xEA], .nop)] = true := by decide

theorem test_decode_flags : decodesAll
    [([0x18], .clc), ([0xD8], .cld), ([0x58], .cli), ([0xB8], .clv), ([0x38], .sec), ([0xF8], .sed),
     ([0x78], .sei)] = true := by decide

theorem test_decode_undefined : decodesAll
    [([0x02], .undefined 0x02), ([0x89], .undefined 0x89), ([0xFF], .undefined 0xFF)] = true := by decide

/-- R61, R62: 151 defined bytes and 105 undefined ones make up the 256. -/
theorem test_opcode_counts :
    opcodeTable.length = 151 ∧ ((List.range 256).all fun n =>
      (rowOfOpcode (BitVec.ofNat 8 n)).isNone == undefinedOpcodes.contains (BitVec.ofNat 8 n)) = true := by
  decide +kernel

/-- T-DOC-1: the length of every row is that of its mode (R64, R57). -/
theorem test_t_doc_1 : (opcodeTable.all fun r => r.length == modeLength r.mode) = true := by decide

/-- An incomplete instruction is refused by name. -/
theorem test_decode_truncated :
    decode [] = .error .empty ∧ decode [0xA9] = .error (.truncated 0xA9) ∧ decode [0x4C, 0x00] = .error (.truncated 0x4C) :=
  ⟨rfl, rfl, rfl⟩

/-! ### The vectors of 95_test_vectors.md, one step each, by instruction -/

/-- V-AM-1 (R74), V-AM-3 (R77), V-AM-4 (R77), V-AM-5 (R78), V-AM-6 (R80), V-AM-7 (R81), V-AM-8 (R81), V-LS-1 (R86),
V-LS-2 (R86). -/
theorem test_lda :
    (gives (start 0x00 0x20 0x00 0xFD 0x24 [(0x0010, 0x5A), (0x0110, 0x11)] [0xB5, 0xF0])
      0x5A 0x20 0x00 0xFD 0x24 0x0202 4 [] = true) ∧
    (gives (start 0x00 0x20 0x00 0xFD 0x24 [(0x1310, 0x01)] [0xBD, 0xF0, 0x12])
      0x01 0x20 0x00 0xFD 0x24 0x0203 5 [] = true) ∧
    (gives (start 0x00 0x20 0x00 0xFD 0x24 [(0x1220, 0x01)] [0xBD, 0x00, 0x12])
      0x01 0x20 0x00 0xFD 0x24 0x0203 4 [] = true) ∧
    (gives (start 0x00 0x00 0x02 0xFD 0x24 [(0x0001, 0x33)] [0xB9, 0xFF, 0xFF])
      0x33 0x00 0x02 0xFD 0x24 0x0203 5 [] = true) ∧
    (gives (start 0x00 0x01 0x00 0xFD 0x24 [(0x0000, 0x12), (0x00FF, 0x34), (0x1234, 0x77)] [0xA1, 0xFE])
      0x77 0x01 0x00 0xFD 0x24 0x0202 6 [] = true) ∧
    (gives (start 0x00 0x00 0x20 0xFD 0x24 [(0x0010, 0xF0), (0x0011, 0x12), (0x1310, 0x99)] [0xB1, 0x10])
      0x99 0x00 0x20 0xFD 0xA4 0x0202 6 [] = true) ∧
    (gives (start 0x00 0x00 0x00 0xFD 0x24 [(0x0000, 0x30), (0x00FF, 0x00), (0x3000, 0x42)] [0xB1, 0xFF])
      0x42 0x00 0x00 0xFD 0x24 0x0202 5 [] = true) ∧
    (gives (start 0x00 0x00 0x00 0xFD 0xA4 [] [0xA9, 0x00])
      0x00 0x00 0x00 0xFD 0x26 0x0202 2 [] = true) ∧
    (gives (start 0x00 0x00 0x00 0xFD 0x24 [] [0xA9, 0x80])
      0x80 0x00 0x00 0xFD 0xA4 0x0202 2 [] = true) := by decide

/-- V-AM-2 (R75), V-LS-3 (R87). -/
theorem test_ldx :
    (gives (start 0x00 0x00 0x01 0xFD 0x24 [(0x0000, 0x80)] [0xB6, 0xFF])
      0x00 0x80 0x01 0xFD 0xA4 0x0202 4 [] = true) ∧
    (gives (start 0x00 0x00 0x00 0xFD 0x24 [] [0xA2, 0xFF])
      0x00 0xFF 0x00 0xFD 0xA4 0x0202 2 [] = true) := by decide

/-- V-LS-4 (R88). -/
theorem test_ldy :
    (gives (start 0x00 0x00 0x00 0xFD 0x24 [(0x1234, 0x01)] [0xAC, 0x34, 0x12])
      0x00 0x00 0x01 0xFD 0x24 0x0203 4 [] = true) := by decide

/-- V-AM-10 (R83), V-LS-5 (R89). -/
theorem test_sta :
    (gives (start 0x66 0x20 0x00 0xFD 0x24 [] [0x9D, 0xF0, 0x12])
      0x66 0x20 0x00 0xFD 0x24 0x0203 5 [(0x1310, 0x66)] = true) ∧
    (gives (start 0x00 0x00 0x00 0xFD 0xA7 [] [0x85, 0x10])
      0x00 0x00 0x00 0xFD 0xA7 0x0202 3 [(0x0010, 0x00)] = true) := by decide

/-- V-LS-6 (R90). -/
theorem test_stx :
    (gives (start 0x00 0x55 0x02 0xFD 0x24 [] [0x96, 0xFF])
      0x00 0x55 0x02 0xFD 0x24 0x0202 4 [(0x0001, 0x55)] = true) := by decide

/-- V-LS-7 (R91). -/
theorem test_sty :
    (gives (start 0x00 0x00 0x80 0xFD 0x24 [] [0x8C, 0x00, 0x30])
      0x00 0x00 0x80 0xFD 0x24 0x0203 4 [(0x3000, 0x80)] = true) := by decide

/-- V-LS-8 (R92). -/
theorem test_tax :
    (gives (start 0x00 0x12 0x00 0xFD 0x24 [] [0xAA])
      0x00 0x00 0x00 0xFD 0x26 0x0201 2 [] = true) := by decide

/-- V-LS-9 (R93). -/
theorem test_tay :
    (gives (start 0x90 0x00 0x00 0xFD 0x24 [] [0xA8])
      0x90 0x00 0x90 0xFD 0xA4 0x0201 2 [] = true) := by decide

/-- V-LS-10 (R94). -/
theorem test_txa :
    (gives (start 0x80 0x7F 0x00 0xFD 0x24 [] [0x8A])
      0x7F 0x7F 0x00 0xFD 0x24 0x0201 2 [] = true) := by decide

/-- V-LS-11 (R95). -/
theorem test_tya :
    (gives (start 0x01 0x00 0x00 0xFD 0x24 [] [0x98])
      0x00 0x00 0x00 0xFD 0x26 0x0201 2 [] = true) := by decide

/-- V-LS-12 (R96). -/
theorem test_tsx :
    (gives (start 0x00 0x00 0x00 0xF0 0x24 [] [0xBA])
      0x00 0xF0 0x00 0xF0 0xA4 0x0201 2 [] = true) := by decide

/-- V-LS-13 (R97). -/
theorem test_txs :
    (gives (start 0x00 0x00 0x00 0xFD 0x24 [] [0x9A])
      0x00 0x00 0x00 0x00 0x24 0x0201 2 [] = true) := by decide

/-- V-ST-1 (R98), V-ST-2 (R98). -/
theorem test_pha :
    (gives (start 0x5A 0x00 0x00 0xFD 0x24 [] [0x48])
      0x5A 0x00 0x00 0xFC 0x24 0x0201 3 [(0x01FD, 0x5A)] = true) ∧
    (gives (start 0x01 0x00 0x00 0x00 0x24 [] [0x48])
      0x01 0x00 0x00 0xFF 0x24 0x0201 3 [(0x0100, 0x01)] = true) := by decide

/-- V-ST-3 (R99). -/
theorem test_php :
    (gives (start 0x00 0x00 0x00 0xFD 0x24 [] [0x08])
      0x00 0x00 0x00 0xFC 0x24 0x0201 3 [(0x01FD, 0x34)] = true) := by decide

/-- V-ST-4 (R100), V-ST-5 (R100). -/
theorem test_pla :
    (gives (start 0x00 0x00 0x00 0xFC 0x24 [(0x01FD, 0x00)] [0x68])
      0x00 0x00 0x00 0xFD 0x26 0x0201 4 [] = true) ∧
    (gives (start 0x00 0x00 0x00 0xFF 0x24 [(0x0100, 0x80)] [0x68])
      0x80 0x00 0x00 0x00 0xA4 0x0201 4 [] = true) := by decide

/-- V-ST-6 (R101), V-ST-7 (R101). -/
theorem test_plp :
    (gives (start 0x00 0x00 0x00 0xFC 0x24 [(0x01FD, 0xFF)] [0x28])
      0x00 0x00 0x00 0xFD 0xEF 0x0201 4 [] = true) ∧
    (gives (start 0x00 0x00 0x00 0xFC 0xEF [(0x01FD, 0x00)] [0x28])
      0x00 0x00 0x00 0xFD 0x20 0x0201 4 [] = true) := by decide

/-- V-AR-1 (R103), V-AR-2 (R103), V-AR-3 (R103), V-AR-4 (R103), V-AR-5 (R103), V-AR-6 (R103), V-AR-7 (R103), V-AR-8
(R103), V-AR-9 (R103), V-AR-10 (R103). -/
theorem test_adc :
    (gives (start 0x00 0x00 0x00 0xFD 0x24 [] [0x69, 0x00])
      0x00 0x00 0x00 0xFD 0x26 0x0202 2 [] = true) ∧
    (gives (start 0xFF 0x00 0x00 0xFD 0x24 [] [0x69, 0x01])
      0x00 0x00 0x00 0xFD 0x27 0x0202 2 [] = true) ∧
    (gives (start 0x7F 0x00 0x00 0xFD 0x24 [] [0x69, 0x01])
      0x80 0x00 0x00 0xFD 0xE4 0x0202 2 [] = true) ∧
    (gives (start 0x80 0x00 0x00 0xFD 0x24 [] [0x69, 0xFF])
      0x7F 0x00 0x00 0xFD 0x65 0x0202 2 [] = true) ∧
    (gives (start 0xFF 0x00 0x00 0xFD 0x25 [] [0x69, 0x00])
      0x00 0x00 0x00 0xFD 0x27 0x0202 2 [] = true) ∧
    (gives (start 0x09 0x00 0x00 0xFD 0x2C [] [0x69, 0x01])
      0x10 0x00 0x00 0xFD 0x2C 0x0202 2 [] = true) ∧
    (gives (start 0x99 0x00 0x00 0xFD 0x2C [] [0x69, 0x01])
      0x00 0x00 0x00 0xFD 0xAD 0x0202 2 [] = true) ∧
    (gives (start 0x58 0x00 0x00 0xFD 0x2D [] [0x69, 0x46])
      0x05 0x00 0x00 0xFD 0xED 0x0202 2 [] = true) ∧
    (gives (start 0x79 0x00 0x00 0xFD 0x2D [] [0x69, 0x00])
      0x80 0x00 0x00 0xFD 0xEC 0x0202 2 [] = true) ∧
    (gives (start 0x0F 0x00 0x00 0xFD 0x2C [] [0x69, 0x0F])
      0x14 0x00 0x00 0xFD 0x2C 0x0202 2 [] = true) := by decide

/-- V-AR-11 (R104), V-AR-12 (R104), V-AR-13 (R104), V-AR-14 (R104), V-AR-15 (R104), V-AR-16 (R104). -/
theorem test_sbc :
    (gives (start 0x00 0x00 0x00 0xFD 0x25 [] [0xE9, 0x01])
      0xFF 0x00 0x00 0xFD 0xA4 0x0202 2 [] = true) ∧
    (gives (start 0x80 0x00 0x00 0xFD 0x25 [] [0xE9, 0x01])
      0x7F 0x00 0x00 0xFD 0x65 0x0202 2 [] = true) ∧
    (gives (start 0x00 0x00 0x00 0xFD 0x24 [] [0xE9, 0x00])
      0xFF 0x00 0x00 0xFD 0xA4 0x0202 2 [] = true) ∧
    (gives (start 0x00 0x00 0x00 0xFD 0x2D [] [0xE9, 0x01])
      0x99 0x00 0x00 0xFD 0xAC 0x0202 2 [] = true) ∧
    (gives (start 0x46 0x00 0x00 0xFD 0x2D [] [0xE9, 0x29])
      0x17 0x00 0x00 0xFD 0x2D 0x0202 2 [] = true) ∧
    (gives (start 0x40 0x00 0x00 0xFD 0x2C [] [0xE9, 0x12])
      0x27 0x00 0x00 0xFD 0x2D 0x0202 2 [] = true) := by decide

/-- V-AR-17 (R106), V-AR-18 (R106), V-AR-19 (R106). -/
theorem test_cmp :
    (gives (start 0x10 0x00 0x00 0xFD 0x24 [] [0xC9, 0x10])
      0x10 0x00 0x00 0xFD 0x27 0x0202 2 [] = true) ∧
    (gives (start 0x10 0x00 0x00 0xFD 0x24 [] [0xC9, 0x20])
      0x10 0x00 0x00 0xFD 0xA4 0x0202 2 [] = true) ∧
    (gives (start 0x80 0x00 0x00 0xFD 0x24 [] [0xC9, 0x01])
      0x80 0x00 0x00 0xFD 0x25 0x0202 2 [] = true) := by decide

/-- V-AR-20 (R107). -/
theorem test_cpx :
    (gives (start 0x00 0x00 0x00 0xFD 0x24 [] [0xE0, 0xFF])
      0x00 0x00 0x00 0xFD 0x24 0x0202 2 [] = true) := by decide

/-- V-AR-21 (R108). -/
theorem test_cpy :
    (gives (start 0x00 0x00 0x00 0xFD 0x24 [] [0xC0, 0x00])
      0x00 0x00 0x00 0xFD 0x27 0x0202 2 [] = true) := by decide

/-- V-AM-11 (R83), V-AR-22 (R109). -/
theorem test_inc :
    (gives (start 0x00 0x01 0x00 0xFD 0x24 [(0x1300, 0x7F)] [0xFE, 0xFF, 0x12])
      0x00 0x01 0x00 0xFD 0xA4 0x0203 7 [(0x1300, 0x80)] = true) ∧
    (gives (start 0x00 0x00 0x00 0xFD 0x24 [(0x0010, 0xFF)] [0xE6, 0x10])
      0x00 0x00 0x00 0xFD 0x26 0x0202 5 [(0x0010, 0x00)] = true) := by decide

/-- V-AR-23 (R110). -/
theorem test_dec :
    (gives (start 0x00 0x00 0x00 0xFD 0x24 [(0x3000, 0x00)] [0xCE, 0x00, 0x30])
      0x00 0x00 0x00 0xFD 0xA4 0x0203 6 [(0x3000, 0xFF)] = true) := by decide

/-- V-AR-24 (R111). -/
theorem test_inx :
    (gives (start 0x00 0x7F 0x00 0xFD 0x24 [] [0xE8])
      0x00 0x80 0x00 0xFD 0xA4 0x0201 2 [] = true) := by decide

/-- V-AR-25 (R112). -/
theorem test_iny :
    (gives (start 0x00 0x00 0xFF 0xFD 0x24 [] [0xC8])
      0x00 0x00 0x00 0xFD 0x26 0x0201 2 [] = true) := by decide

/-- V-AR-26 (R113). -/
theorem test_dex :
    (gives (start 0x00 0x01 0x00 0xFD 0x24 [] [0xCA])
      0x00 0x00 0x00 0xFD 0x26 0x0201 2 [] = true) := by decide

/-- V-AR-27 (R114). -/
theorem test_dey :
    (gives (start 0x00 0x00 0x00 0xFD 0x24 [] [0x88])
      0x00 0x00 0xFF 0xFD 0xA4 0x0201 2 [] = true) := by decide

/-- V-LG-1 (R115). -/
theorem test_and :
    (gives (start 0xF0 0x00 0x00 0xFD 0x24 [] [0x29, 0x0F])
      0x00 0x00 0x00 0xFD 0x26 0x0202 2 [] = true) := by decide

/-- V-LG-2 (R116). -/
theorem test_ora :
    (gives (start 0x01 0x00 0x00 0xFD 0x24 [] [0x09, 0x80])
      0x81 0x00 0x00 0xFD 0xA4 0x0202 2 [] = true) := by decide

/-- V-LG-3 (R117). -/
theorem test_eor :
    (gives (start 0xFF 0x00 0x00 0xFD 0x24 [] [0x49, 0xFF])
      0x00 0x00 0x00 0xFD 0x26 0x0202 2 [] = true) := by decide

/-- V-LG-4 (R118), V-LG-5 (R118). -/
theorem test_bit :
    (gives (start 0x01 0x00 0x00 0xFD 0x24 [(0x0010, 0xC0)] [0x24, 0x10])
      0x01 0x00 0x00 0xFD 0xE6 0x0202 3 [] = true) ∧
    (gives (start 0xFF 0x00 0x00 0xFD 0xE4 [(0x3000, 0x01)] [0x2C, 0x00, 0x30])
      0xFF 0x00 0x00 0xFD 0x24 0x0203 4 [] = true) := by decide

/-- V-LG-6 (R120), V-LG-7 (R120). -/
theorem test_asl :
    (gives (start 0x81 0x00 0x00 0xFD 0x24 [] [0x0A])
      0x02 0x00 0x00 0xFD 0x25 0x0201 2 [] = true) ∧
    (gives (start 0x00 0x00 0x00 0xFD 0x24 [(0x0010, 0x40)] [0x06, 0x10])
      0x00 0x00 0x00 0xFD 0xA4 0x0202 5 [(0x0010, 0x80)] = true) := by decide

/-- V-LG-8 (R121). -/
theorem test_lsr :
    (gives (start 0x01 0x00 0x00 0xFD 0x24 [] [0x4A])
      0x00 0x00 0x00 0xFD 0x27 0x0201 2 [] = true) := by decide

/-- V-LG-9 (R122). -/
theorem test_rol :
    (gives (start 0x80 0x00 0x00 0xFD 0x25 [] [0x2A])
      0x01 0x00 0x00 0xFD 0x25 0x0201 2 [] = true) := by decide

/-- V-LG-10 (R123), V-LG-11 (R123). -/
theorem test_ror :
    (gives (start 0x01 0x00 0x00 0xFD 0x25 [] [0x6A])
      0x80 0x00 0x00 0xFD 0xA5 0x0201 2 [] = true) ∧
    (gives (start 0x00 0x01 0x00 0xFD 0x24 [(0x3001, 0x02)] [0x7E, 0x00, 0x30])
      0x00 0x01 0x00 0xFD 0x24 0x0203 7 [(0x3001, 0x01)] = true) := by decide

/-- V-AM-9 (R79), V-CT-1 (R124). -/
theorem test_jmp :
    (gives (start 0x00 0x00 0x00 0xFD 0x24 [(0x3000, 0x50), (0x30FF, 0x80), (0x3100, 0x40)] [0x6C, 0xFF, 0x30])
      0x00 0x00 0x00 0xFD 0x24 0x5080 5 [] = true) ∧
    (gives (start 0x00 0x00 0x00 0xFD 0x24 [] [0x4C, 0x34, 0x12])
      0x00 0x00 0x00 0xFD 0x24 0x1234 3 [] = true) := by decide

/-- V-CT-2 (R125). -/
theorem test_jsr :
    (gives (start 0x00 0x00 0x00 0xFD 0x24 [] [0x20, 0x00, 0x30])
      0x00 0x00 0x00 0xFB 0x24 0x3000 6 [(0x01FC, 0x02), (0x01FD, 0x02)] = true) := by decide

/-- V-CT-3 (R126). -/
theorem test_rts :
    (gives (start 0x00 0x00 0x00 0xFB 0x24 [(0x01FC, 0x02), (0x01FD, 0x30)] [0x60])
      0x00 0x00 0x00 0xFD 0x24 0x3003 6 [] = true) := by decide

/-- V-CT-4 (R127). -/
theorem test_rti :
    (gives (start 0x00 0x00 0x00 0xFA 0x24 [(0x01FB, 0xFF), (0x01FC, 0x00), (0x01FD, 0x30)] [0x40])
      0x00 0x00 0x00 0xFD 0xEF 0x3000 6 [] = true) := by decide

/-- V-CT-10 (R129). -/
theorem test_bpl :
    (gives (start 0x00 0x00 0x00 0xFD 0xA4 [] [0x10, 0x02])
      0x00 0x00 0x00 0xFD 0xA4 0x0202 2 [] = true) := by decide

/-- V-CT-11 (R130). -/
theorem test_bmi :
    (gives (start 0x00 0x00 0x00 0xFD 0xA4 [] [0x30, 0x02])
      0x00 0x00 0x00 0xFD 0xA4 0x0204 3 [] = true) := by decide

/-- V-CT-12 (R131). -/
theorem test_bvc :
    (gives (start 0x00 0x00 0x00 0xFD 0x64 [] [0x50, 0x02])
      0x00 0x00 0x00 0xFD 0x64 0x0202 2 [] = true) := by decide

/-- V-CT-13 (R132). -/
theorem test_bvs :
    (gives (start 0x00 0x00 0x00 0xFD 0x64 [] [0x70, 0x02])
      0x00 0x00 0x00 0xFD 0x64 0x0204 3 [] = true) := by decide

/-- V-CT-8 (R133). -/
theorem test_bcc :
    (gives (start 0x00 0x00 0x00 0xFD 0x24 [] [0x90, 0xFE])
      0x00 0x00 0x00 0xFD 0x24 0x0200 3 [] = true) := by decide

/-- V-CT-9 (R134). -/
theorem test_bcs :
    (gives (start 0x00 0x00 0x00 0xFD 0x25 [] [0xB0, 0x7F])
      0x00 0x00 0x00 0xFD 0x25 0x0281 3 [] = true) := by decide

/-- V-CT-5 (R135), V-CT-6 (R135). -/
theorem test_bne :
    (gives (start 0x00 0x00 0x00 0xFD 0x24 [] [0xD0, 0x10])
      0x00 0x00 0x00 0xFD 0x24 0x0212 3 [] = true) ∧
    (gives (start 0x00 0x00 0x00 0xFD 0x26 [] [0xD0, 0x10])
      0x00 0x00 0x00 0xFD 0x26 0x0202 2 [] = true) := by decide

/-- V-CT-7 (R136). -/
theorem test_beq :
    (gives (start 0x00 0x00 0x00 0xFD 0x26 [] [0xF0, 0x80])
      0x00 0x00 0x00 0xFD 0x26 0x0182 4 [] = true) := by decide

/-- V-CT-14 (R137), V-CT-15 (R137). -/
theorem test_brk :
    (gives (start 0x00 0x00 0x00 0xFD 0x21 [(0xFFFE, 0x00), (0xFFFF, 0xE0)] [0x00, 0xEA])
      0x00 0x00 0x00 0xFA 0x25 0xE000 7 [(0x01FB, 0x31), (0x01FC, 0x02), (0x01FD, 0x02)] = true) ∧
    (gives (start 0x00 0x00 0x00 0xFD 0x2C [(0xFFFE, 0x00), (0xFFFF, 0xE0)] [0x00, 0xEA])
      0x00 0x00 0x00 0xFA 0x2C 0xE000 7 [(0x01FB, 0x3C), (0x01FC, 0x02), (0x01FD, 0x02)] = true) := by decide

/-- V-CT-16 (R138). -/
theorem test_nop :
    (gives (start 0x00 0x00 0x00 0xFD 0xE7 [] [0xEA])
      0x00 0x00 0x00 0xFD 0xE7 0x0201 2 [] = true) := by decide

/-- V-FL-1 (R139). -/
theorem test_clc :
    (gives (start 0x00 0x00 0x00 0xFD 0xEF [] [0x18])
      0x00 0x00 0x00 0xFD 0xEE 0x0201 2 [] = true) := by decide

/-- V-FL-5 (R140). -/
theorem test_cld :
    (gives (start 0x00 0x00 0x00 0xFD 0x2C [] [0xD8])
      0x00 0x00 0x00 0xFD 0x24 0x0201 2 [] = true) := by decide

/-- V-FL-3 (R141). -/
theorem test_cli :
    (gives (start 0x00 0x00 0x00 0xFD 0x24 [] [0x58])
      0x00 0x00 0x00 0xFD 0x20 0x0201 2 [] = true) := by decide

/-- V-FL-7 (R142). -/
theorem test_clv :
    (gives (start 0x00 0x00 0x00 0xFD 0x64 [] [0xB8])
      0x00 0x00 0x00 0xFD 0x24 0x0201 2 [] = true) := by decide

/-- V-FL-2 (R143). -/
theorem test_sec :
    (gives (start 0x00 0x00 0x00 0xFD 0x24 [] [0x38])
      0x00 0x00 0x00 0xFD 0x25 0x0201 2 [] = true) := by decide

/-- V-FL-6 (R144). -/
theorem test_sed :
    (gives (start 0x00 0x00 0x00 0xFD 0x24 [] [0xF8])
      0x00 0x00 0x00 0xFD 0x2C 0x0201 2 [] = true) := by decide

/-- V-FL-4 (R145). -/
theorem test_sei :
    (gives (start 0x00 0x00 0x00 0xFD 0x20 [] [0x78])
      0x00 0x00 0x00 0xFD 0x24 0x0201 2 [] = true) := by decide

/-! ### Interrupts, the run loop, RESET -/

/-- The cells of the V-IN vectors. -/
def vectors : List (Nat × Byte) := [(0xFFFB, 0x40), (0xFFFF, 0x50)]

/-- A state with the lines of a V-IN vector. -/
def withLines (irq nmi : Bool) (s : State) : State := { s with irqLine := irq, nmiPending := nmi }

/-- V-IN-1 (R147): an IRQ that I masks: NOP runs. -/
theorem test_v_in_1 : gives (withLines true false (start 0 0 0 0xFD 0x24 vectors [0xEA]))
    0 0 0 0xFD 0x24 0x0201 2 [] = true := by decide

/-- An interrupt entry gives this SP, P and PC, takes 7 cycles, and leaves these cells. -/
def enters (s : State) (sp p : Byte) (pc : Word) (cells : List (Nat × Byte)) : Bool :=
  match step s with
  | .next t =>
    t.sp == sp && t.p.toByte == p && t.pc == pc && t.totalCycles == 7 && t.instructionsExecuted == 0 && !t.nmiPending
      && cells.all (fun c => t.ram.read c.1 == c.2)
  | .fault _ | .refused _ => false

/-- V-IN-2 (R156), V-IN-6 (R154): IRQ entry; D is not cleared. -/
theorem test_irq_entry :
    enters (withLines true false (start 0 0 0 0xFD 0x20 vectors [0xEA])) 0xFA 0x24 0x5000
      [(0x01FB, 0x20), (0x01FC, 0x00), (0x01FD, 0x02)] = true
    ∧ enters (withLines true false (start 0 0 0 0xFD 0x2B vectors [0xEA])) 0xFA 0x2F 0x5000 [(0x01FB, 0x2B)] = true := by
  decide

/-- V-IN-3 (R155), V-IN-4 (R153): NMI entry ignores I and wins over an IRQ. -/
theorem test_nmi_entry :
    enters (withLines false true (start 0 0 0 0xFD 0x24 vectors [0xEA])) 0xFA 0x24 0x4000
      [(0x01FB, 0x24), (0x01FC, 0x00), (0x01FD, 0x02)] = true
    ∧ enters (withLines true true (start 0 0 0 0xFD 0x20 vectors [0xEA])) 0xFA 0x24 0x4000 [(0x01FB, 0x20)] = true := by
  decide

/-- V-IN-5 (R147): CLI with an IRQ asserted runs; the poll after it takes the IRQ. -/
theorem test_v_in_5 :
    (match step (withLines true false (start 0 0 0 0xFD 0x24 vectors [0x58, 0xEA])) with
      | .next t => t.pc == 0x0201 && poll t == .irqEntry
      | _ => false) = true := by decide

/-- R148: the latch is set by an edge and not by a level held. -/
theorem test_nmi_edge :
    (State.reset.setNmiLine true).nmiPending = true
    ∧ (({ State.reset with nmiLine := true }).setNmiLine true).nmiPending = false := by decide

/-- T-RUN-1 (R150): policy Stop. -/
theorem test_t_run_1 :
    (match step (start 1 2 3 0xFD 0x24 [] [0x02]) with
      | .next t =>
        t.runStatus == .stopped (.unknownOpcode 0x02 0x0200) && t.pc == 0x0200 && t.a == 1 && t.x == 2 && t.y == 3
          && t.totalCycles == 0 && t.instructionsExecuted == 0 && t.lastResult.unknown
      | _ => false) = true := by decide

/-- T-RUN-2 (R150): policy SkipAsNop, with UNKNOWN_NOP_CYCLES = 7. -/
theorem test_t_run_2 :
    (match step { start 1 2 3 0xFD 0x24 [] [0x02] with
        cfg := { Config.default with unknownOpcodePolicy := .skipAsNop, unknownNopCycles := some 7 } } with
      | .next t =>
        t.runStatus == .running && t.pc == 0x0201 && t.a == 1 && t.totalCycles == 7 && t.instructionsExecuted == 1
          && t.lastResult.cycles == 0
      | _ => false) = true := by decide

/-- T-RUN-3 (R163), its last step: the NOP before the breakpoint runs, and the run stops. -/
theorem test_breakpoint :
    (match step { start 0 0 0 0xFD 0x24 [] [0xEA, 0xEA] with cfg := { Config.default with breakpoints := [(0x0201, true)] } } with
      | .next t =>
        t.runStatus == .stopped .debugBreakPoint && t.pc == 0x0201 && t.lastTrigger.triggered
          && t.lastTrigger.reasonType == .debugBreakPoint
      | _ => false) = true := by decide

/-- T-RUN-4 (R163): the PC at which a run starts is not checked. -/
theorem test_breakpoint_at_start :
    (match step { start 0 0 0 0xFD 0x24 [] [0xEA, 0xEA] with cfg := { Config.default with breakpoints := [(0x0200, true)] } } with
      | .next t => t.runStatus == .running && t.pc == 0x0201
      | _ => false) = true := by decide

/-- T-RUN-5, T-RUN-6 (R161): the budgets, on the step that reaches them. -/
theorem test_budgets :
    (match step { start 0 0 0 0xFD 0x24 [] [0xEA] with cfg := { Config.default with maxInstructions := some 1 } } with
      | .next t => t.runStatus == .stopped .instructionLimit
      | _ => false) = true
    ∧ (match step { start 0 0 0 0xFD 0x24 [] [0xEA] with cfg := { Config.default with maxCycles := some 2 } } with
      | .next t => t.runStatus == .stopped .cycleLimit
      | _ => false) = true := by decide

/-- T-RUN-7, T-RUN-8 (R161, R137): BRK completes, and stops the run or not. -/
theorem test_stop_on_brk :
    (match step { start 0 0 0 0xFD 0x24 [(0xFFFF, 0xE0)] [0x00] with cfg := { Config.default with stopOnBrk := true } } with
      | .next t => t.runStatus == .stopped .brk && t.pc == 0xE000 && t.sp == 0xFA
      | _ => false) = true
    ∧ (match step (start 0 0 0 0xFD 0x24 [(0xFFFF, 0xE0)] [0x00]) with
      | .next t => t.runStatus == .running && t.pc == 0xE000
      | _ => false) = true := by decide

/-- R161: a run that has stopped takes no step. -/
theorem test_stopped_run : step { State.reset with runStatus := .stopped .brk } = .fault (.runStopped .brk) := rfl

/-- T-RUN-9 (R190). -/
theorem test_t_run_9 :
    (let t := State.applyReset { start 1 2 3 0x10 0xEB [(0xFFFD, 0xC0)] [] with nmiPending := true, totalCycles := 9 }
     t.a == 0 && t.x == 0 && t.y == 0 && t.sp == 0xFD && t.p.toByte == 0x24 && t.pc == 0xC000 && !t.nmiPending
       && t.totalCycles == 0 && t.ram == [(0xFFFD, 0xC0)]) = true := by decide

/-- R190: the reset state is what RESET makes of itself. -/
theorem test_reset_reset : State.reset.applyReset = State.reset := by decide

/-- The first instruction after reset is the one placed, and at the top of memory its bytes wrap to $0000. -/
theorem test_withFetchWord :
    (match step (State.reset.withFetchWord 16 0x2AA9) with | .next t => t.a == 0x2A && t.pc == 2 | _ => false) = true
    ∧ (match step ({ State.reset with pc := 0xFFFF }.withFetchWord 16 0x2AA9) with
      | .next t => t.a == 0x2A && t.pc == 1
      | _ => false) = true := by decide

/-- T-DOC-9 (R195). -/
theorem test_t_doc_9 :
    (match State.reset.loadWithHeader [0x00, 0x10, 0xA9, 0x01] with
      | some (t, r) => t.ram == [(0x1000, 0xA9), (0x1001, 0x01)] && r == ⟨0x1000, 2⟩
      | none => false) = true
    ∧ State.reset.loadWithHeader [0x00] = none := by decide

/-- R195: loading past $FFFF goes on from $0000. -/
theorem test_load_wraps : (State.reset.loadAt 0xFFFF [1, 2]).1.ram = [(0, 2), (0xFFFF, 1)] := by decide

/-! ### Memory and banks -/

/-- A C64 with hooks in place: KERNAL, BASIC and character images of one byte each, the rest of them $00. -/
def c64 (port ddr : Byte) : State :=
  { State.reset with
    cfg := { Config.default with
      platform := .c64 .pal, roms := { kernal := [0xE1], basic := [0xA1], chargen := [0xC1] } }
    hooks := c64Hooks
    ram := Mem.ofCells ramSize [(0, ddr), (1, port), (0xA000, 0x0A), (0xD000, 0x0D), (0xE000, 0x0E)]
    dev := { Devices.reset with vic := { Vic.reset with regs := [(0, 0x55)] } } }

/-- R49's table: all eight configurations, with $D000 holding sprite 0's X in the I/O ones. -/
theorem test_banks :
    ([0, 1, 2, 3, 4, 5, 6, 7].map fun n : Nat =>
      let s := c64 (BitVec.ofNat 8 n) 0x07
      [(s.memRead 0xA000).1, (s.memRead 0xD000).1, (s.memRead 0xE000).1])
      = [[0x0A, 0x0D, 0x0E], [0x0A, 0xC1, 0x0E], [0x0A, 0xC1, 0xE1], [0xA1, 0xC1, 0xE1],
         [0x0A, 0x0D, 0x0E], [0x0A, 0x55, 0x0E], [0x0A, 0x55, 0xE1], [0xA1, 0x55, 0xE1]] := by decide

/-- R49, R191: a port with every bit an input reads as all ones: the configuration at power-on. -/
theorem test_bank_at_reset : (bankOf (c64 0x00 0x00).ram, ioViewOf (bankOf (c64 0x00 0x00).ram)) = (⟨true, true, true⟩, .io) := by
  decide

/-- R49: a write to an address that reads ROM writes the RAM underneath. -/
theorem test_write_under_rom : ((c64 0x07 0x07).memWrite 0xE000 0x99).ramByte 0xE000 = 0x99 := by decide

/-- A bare machine with two external buffers. -/
def withBuffers : State := { State.reset with dev := { Devices.reset with buffers := [[1, 2, 3], [7, 8]] } }

/-- R34: a mapped buffer answers its addresses, and two ranges mapped to one buffer share its bytes; the last
registration of an address wins; a range past the end of memory is a configuration error. -/
theorem test_mapRam :
    (match withBuffers.registerAll [.mapRam 0xC000 0, .mapRam 0xC800 0, .mapRam 0xC801 1] with
      | .ok s => let t := s.memWrite 0xC000 9
          (s.memRead 0xC002).1 == 3 && (t.memRead 0xC800).1 == 9 && t.ram == [] && (s.memRead 0xC003).1 == 0
          && (s.memRead 0xC801).1 == 7
      | .error _ => false) = true
    ∧ (match withBuffers.mapRam 0xFFFE 1 with | .ok _ => true | .error _ => false) = true
    ∧ (match withBuffers.mapRam 0xFFFF 1 with | .ok _ => false | .error e => e == .mapRamPastEnd) = true := by decide

/-- R34, D13, D14: a device register at a chosen address: the border colour's writer hook alone leaves reads to RAM. -/
theorem test_mapWriter :
    (let s := State.reset.mapWriter 0xC000 (.register (.vic 0x20))
     let t := s.memWrite 0xC000 0x0E
     t.dev.vic.regs == [(0x20, 0x0E)] && t.ram == [] && (t.memRead 0xC000).1 == 0) = true := by decide

/-- Canonical storage: writing the blank byte takes the entry out. -/
theorem test_mem_canonical :
    Mem.write [(3, 1), (7, 2)] 3 0 = [(7, 2)] ∧ Mem.write [(7, 2)] 3 1 = [(3, 1), (7, 2)] := by decide

/-! ### Building (R191 to R193) -/

theorem test_build_errors :
    let images : Option RomImage := none
    let build := fun name variant => buildSystem
      { params := Config.default, platform := .c64 name variant images images images, ram := [], colourRam := [],
        buffers := [], registrations := [] }
    (match build "VIC20" "PAL" with | .ok _ => false | .error e => e == .invalidModelName) = true
    ∧ (match build "C64PAL" "SECAM" with | .ok _ => false | .error e => e == .invalidVicVariant) = true
    ∧ (match build "C64PAL" "PAL" with | .ok _ => false | .error e => e == .missingRom) = true := by decide

/-- R193, R34, R194: the build makes the registrations, so RESET reads its vector through them; one past $FFFF fails it. -/
theorem test_build_registers :
    let build := fun start => buildSystem
      { params := Config.default, platform := .bare, ram := [(0xFFFC, 0x11)], colourRam := [],
        buffers := [[0x34, 0x12, 0x00]], registrations := [.mapRam start 0] }
    (match build 0xFFFC with | .ok s => s.pc == 0x1234 && s.ram == [(0xFFFC, 0x11)] | .error _ => false) = true
    ∧ (match build 0xFFFD with | .ok s => s.pc == 0x3411 | .error _ => false) = true
    ∧ (match build 0xFFFE with | .ok _ => false | .error e => e == .mapRamPastEnd) = true := by decide

/-! ### VIC-II -/

/-- A VIC-II at a raster position. -/
def vicAt (line cycle : Nat) : Vic := { Vic.reset with rasterLine := line, cycleInLine := cycle }

/-- T-VIC-1, T-VIC-2 (R170). -/
theorem test_t_vic_1_2 :
    (let v := vicAdvance ⟨63, 312⟩ 5 (vicAt 0 60); v.rasterLine == 1 && v.cycleInLine == 2 && !v.frameComplete) = true
    ∧ (let v := vicAdvance ⟨63, 312⟩ 1 (vicAt 311 62); v.rasterLine == 0 && v.cycleInLine == 0 && v.frameComplete)
      = true := by decide

/-- T-DOC-6 (R169). -/
theorem test_t_doc_6 :
    cyclesPerFrame (timingOf Config.default .pal) = 19656 ∧ cyclesPerFrame (timingOf Config.default .ntsc) = 16768 := by
  decide

/-- T-VIC-4 (R173). -/
theorem test_t_vic_4 :
    vicReadValue (vicAt 300 0) 0x12 = 0x2C ∧ (vicReadValue (vicAt 300 0) 0x11).getLsbD 7 = true := by decide

/-- T-VIC-5, T-VIC-6 (R174). -/
theorem test_t_vic_5_6 :
    (let v := vicAdvance ⟨63, 312⟩ 1 { vicAt 99 62 with compare := 100, enable := 1 }
     let w := vicWrite v 0x19 0x01
     v.latch == 1 && vicIrqOut v && vicReadValue v 0x19 == 0xF1 && w.latch == 0 && !vicIrqOut w
       && vicReadValue w 0x19 == 0x70) = true := by decide

/-- 40 cycles on a line whose low three bits are YSCROLL while DEN is 1. -/
def yscrollLines : VicFn :=
  .choose (.mul (.equal (.mod .line (.number 8)) (.bitAnd (.register 0x11) (.number 7)))
    (.bitAnd (.register 0x11) (.number 0x10))) (.number 40) (.number 0)

/-- R171, R6: a supplied function of the line and the VIC-II state adds its cycles when the line is entered. -/
theorem test_badline :
    ([0x13, 0x14, 0x03].map fun b =>
      let v := { vicAt 50 62 with regs := [(0x11, b)] }
      let s := { c64 0 0 with stepCycles := 2, dev := { Devices.reset with vic := v } }
      catchUpCycles { s with cfg := { s.cfg with badlineStolenCycles := some yscrollLines } } ⟨63, 312⟩)
      = [42, 2, 2] := by decide

/-- R6, R168, R170: a supplied function sees frame_complete of the advance that enters the line, which is set where it
wraps the frame, whatever the step before left. -/
theorem test_badline_frameComplete :
    ([(311, false), (50, true)].map fun p =>
      let v := { vicAt p.1 62 with frameComplete := p.2 }
      let s := { c64 0 0 with stepCycles := 2, dev := { Devices.reset with vic := v } }
      catchUpCycles { s with cfg := { s.cfg with
        badlineStolenCycles := some (.choose .frameComplete (.number 5) (.number 9)) } } ⟨63, 312⟩) = [7, 11] := by decide

/-- R6, R169: figures supplied for one variant are those of that variant. -/
theorem test_visibleArea :
    (let c := { Config.default with
       linesVisible := ⟨some 200, some 201, some 202⟩
       pixelsPerLine := ⟨some 500, some 501, some 502⟩
       pixelsPerLineVisible := ⟨some 400, some 410, some 420⟩ }
     ([VicModel.ntsc, .ntscOld, .pal].map fun m => hBlankPixels (visibleAreaOf c m)) = [100, 91, 82]
       ∧ ([VicModel.ntsc, .pal].map fun m => vBlankLines (timingOf c m) (visibleAreaOf c m)) = [62, 110]) := by decide

/-- R175: a write shows from its own raster line on. -/
theorem test_raster_write :
    (let v := vicWrite (vicAt 100 0) 0x20 0x05
     [frameRegOnLine v.frame 0x20 99, frameRegOnLine v.frame 0x20 100, frameRegOnLine v.frame 0x20 101])
      = [0x00, 0x05, 0x05] := by decide

/-! ### CIA -/

/-- T-CIA-1's writes. -/
def ciaStarted (control : Byte) : Cia := ciaWrite (ciaWrite (ciaWrite Cia.reset 4 0x03) 5 0x00) 0xE control

/-- T-CIA-1 (R185). -/
theorem test_t_cia_1 :
    ([1, 2, 3, 4].map fun n => ((ciaAdvance n (ciaStarted 0x01)).timerA.counter, (ciaAdvance n (ciaStarted 0x01)).latch))
      = [(2, 0), (1, 0), (0, 0), (3, 1)] := by decide

/-- T-CIA-2 (R186, R151). -/
theorem test_t_cia_2 :
    (let c := ciaWrite (ciaAdvance 4 (ciaStarted 0x01)) 0xD 0x81
     let d := { Devices.reset with cia1 := c }
     let r := registerRead State.reset.inputs d (ioRegister 0xDC0D)
     c64IrqLine d && r.1 == 0x81 && !c64IrqLine r.2 && r.2.cia1.latch == 0) = true := by decide

/-- T-CIA-3 (R185): one-shot. -/
theorem test_t_cia_3 :
    (let c := ciaAdvance 6 (ciaStarted 0x09); c.timerA.counter == 3 && c.timerA.control == 0x08) = true := by decide

/-- R187: the key in column 1, row 2 shows when port A selects column 1; joystick 2's fire button on port A. -/
theorem test_keyboard :
    (let inp : Inputs := { keys := [(1, 2)], joystick1 := 0, joystick2 := 0x10, restoreKey := false }
     [ciaReadValue .cia1 inp { Cia.reset with pra := 0xFD } 1, ciaReadValue .cia1 inp { Cia.reset with pra := 0xFE } 1,
      ciaReadValue .cia1 inp { Cia.reset with pra := 0xFF } 0]) = [0xFB, 0xFF, 0xEF] := by decide

/-! ### SID -/

/-- T-SID-1, T-SID-2, T-SID-3 (R179). -/
theorem test_t_sid_1_2_3 :
    (let v := voiceWrite 0 Voice.reset 4 0x11; (v.phase, v.lastCommand.kind)) = (.attack, .startADS)
    ∧ (let v := voiceWrite 0 { Voice.reset with phase := .sustain, control := 0x11, level := 1 } 4 0x10
       (v.phase, v.lastCommand.kind)) = (.release, .startRelease)
    ∧ (let v := voiceWrite 0 { Voice.reset with phase := .decay, control := 0x11, level := 1 } 4 0x01
       (v.phase, v.level, v.lastCommand.kind)) = (.idle, 0, .stop) := by decide

/-- T-SID-4 (R181, R180). -/
theorem test_t_sid_4 :
    (let v := voiceAdvance 1 { Voice.reset with phase := .release, level := 1 / 100 }; (v.phase, v.level)) = (.idle, 0) := by
  decide +kernel

/-- T-SID-5 (R181). -/
theorem test_t_sid_5 :
    (let v := voiceAdvance 8 { Voice.reset with phase := .attack, ad := 0x10, sr := 0xF0 }
     let w := voiceAdvance (1 / 1000) v
     (v.phase, v.level, w.phase, w.level)) = (.decay, 1, .sustain, 1) := by decide +kernel

/-- T-SID-6 (R182). -/
theorem test_t_sid_6 :
    (let s := sidWrite Sid.reset 0x18 0x0F; (s.voice0.lastCommand.kind, s.voice0.lastCommand.gain)) = (.changeVolume, 1)
    ∧ (sidWrite Sid.reset 0x18 0x05).voice2.lastCommand.gain = 1 / 3 := by decide +kernel

/-! ### Witnesses: for each statement with hypotheses, a state and operands that meet them -/

/-- Encoding statements: well-formed instructions at the ends of their operands' ranges, and a word that decodes. -/
theorem witness_encoding :
    (Instr.lda (.memory (.indirectY 0xFF))).wf = true ∧ (Instr.jmp (.indirect 0xFFFF)).wf = true
    ∧ (Instr.undefined 0x02).wf = true ∧ (Instr.asl .accumulator).wf = true
    ∧ decode [0xB1, 0xFF, 0x00] = .ok (.lda (.memory (.indirectY 0xFF)), [0x00]) := by
  refine ⟨?_, ?_, ?_, ?_, rfl⟩ <;> decide

theorem witness_LengthFollowsMode :
    (Instr.nop).wf = true ∧ Instr.nop.mode = .implied ∧ (Instr.bne 0xFF).wf = true ∧ (Instr.bne 0xFF).mode = .relative
    ∧ (Instr.jsr 0xFFFF).wf = true ∧ (Instr.jsr 0xFFFF).mode = .absolute ∧ ∀ op, Instr.jsr 0xFFFF ≠ .undefined op :=
  ⟨rfl, rfl, rfl, rfl, rfl, rfl, fun _ h => nomatch h⟩

theorem witness_UndefinedOpcodesRaise :
    (0xFF : Byte) ∈ undefinedOpcodes ∧ ((start 0 0 0 0 0 [] [0xFF]).busRead 0x0200).1 = 0xFF := by decide

theorem witness_OperandIsReadOnce : State.reset.hooks.readers = [] := rfl

theorem witness_LoadsTakeOperand :
    (Instr.lda (.memory (.indirectX 0xFF))).wf = true ∧ (Instr.ldx (.memory (.absoluteY 0xFFFF))).wf = true
    ∧ (Instr.ldy (.immediate 0x00)).wf = true := by decide

/-- With plain RAM under the address, and the three stores' forms. -/
theorem witness_StoresWriteRegister :
    (Instr.sta (.indirectY 0xFF)).wf = true ∧ (Instr.stx (.zeroPageY 0xFF)).wf = true
    ∧ (Instr.sty (.zeroPageX 0xFF)).wf = true ∧ State.reset.ram.wf ramSize = true
    ∧ hookAt State.reset.hooks.writers 0xFFFF = none := by decide

/-- The stack wraps inside page 1 at both ends, over plain RAM. -/
theorem witness_stack :
    State.reset.ram.wf ramSize = true
    ∧ (∀ k < 4, Plain State.reset (stackSlot State.reset k) ∧ Plain State.reset (stackAbove State.reset k))
    ∧ stackSlot { State.reset with sp := 0x00 } 1 = 0x01FF ∧ stackAbove { State.reset with sp := 0xFF } 1 = 0x0100 :=
  ⟨rfl, fun _ _ => ⟨⟨rfl, rfl⟩, ⟨rfl, rfl⟩⟩, by decide, by decide⟩

/-- ADC, SBC, V and the digits: both modes, with operands at the ends of the digit range. -/
theorem witness_arithmetic :
    let bcd := start 0x99 0 0 0xFD 0x2D [] []
    (Instr.adc (.memory (.indirectX 0xFF))).wf = true ∧ (Instr.sbc (.immediate 0x99)).wf = true
    ∧ bcd.p.d = true ∧ bcd.p.c = true ∧ State.reset.p.d = false
    ∧ bcd.a.toNat / 16 < 10 ∧ bcd.a.toNat % 16 < 10
    ∧ (operandByte bcd (.immediate 0x99)).toNat / 16 < 10 ∧ (operandByte bcd (.immediate 0x99)).toNat % 16 < 10 := by
  decide

theorem witness_arithmetic_next :
    (∃ t, exec (.adc (.immediate 0x99)) (start 0x99 0 0 0xFD 0x2D [] []) = .next t)
    ∧ (∃ t, exec (.sbc (.immediate 0x99)) (start 0x00 0 0 0xFD 0x2C [] []) = .next t)
    ∧ (∃ t, exec (.adc (.immediate 0x7F)) State.reset = .next t)
    ∧ (∃ t, exec (.sbc (.immediate 0x80)) State.reset = .next t) :=
  ⟨⟨_, rfl⟩, ⟨_, rfl⟩, ⟨_, rfl⟩, ⟨_, rfl⟩⟩

theorem witness_compare_logic :
    (Instr.cmp (.memory (.indirectY 0xFF))).wf = true ∧ (Instr.cpx (.memory (.absolute 0xFFFF))).wf = true
    ∧ (Instr.cpy (.immediate 0xFF)).wf = true ∧ (Instr.and (.memory (.absoluteY 0xFFFF))).wf = true
    ∧ (Instr.ora (.immediate 0x00)).wf = true ∧ (Instr.eor (.memory (.zeroPageX 0xFF))).wf = true
    ∧ (Instr.bit (.memory (.zeroPage 0xFF))).wf = true := by decide

theorem witness_modify :
    (Instr.inc (.absoluteX 0xFFFF)).wf = true ∧ (Instr.dec (.zeroPageX 0xFF)).wf = true
    ∧ (Instr.asl (.memory (.absoluteX 0xFFFF))).wf = true ∧ (Instr.lsr (.memory (.zeroPage 0xFF))).wf = true
    ∧ (Instr.rol (.memory (.zeroPageX 0xFF))).wf = true ∧ (Instr.ror (.memory (.absolute 0xFFFF))).wf = true
    ∧ Plain State.reset 0xFFFF ∧ State.reset.ram.wf ramSize = true := by
  refine ⟨?_, ?_, ?_, ?_, ?_, ?_, ⟨rfl, rfl⟩, rfl⟩ <;> decide

/-- A branch with its flag as wanted and with it not, at the ends of the offset's range. -/
theorem witness_BranchesFollowFlag :
    (Instr.bpl 0x7F, State.reset.p.n, false) ∈ [(Instr.bpl 0x7F, State.reset.p.n, false)]
    ∧ State.reset.p.n = false ∧ State.reset.p.z ≠ true
    ∧ BitVec.ofInt 16 ((State.reset.pc.toNat : Int) + (0x80 : Byte).toInt) = 0xFF80#16
    ∧ BitVec.ofInt 16 ((0x0280#16).toNat + (0x7F : Byte).toInt) = 0x02FF#16 := by decide

theorem witness_UnknownOpcodePolicy :
    (start 0 0 0 0 0 [] []).pc = 0x01FF + 1 ∧ Config.default.unknownOpcodePolicy = .stop
    ∧ { Config.default with unknownOpcodePolicy := .skipAsNop }.unknownOpcodePolicy = .skipAsNop
    ∧ ({ State.reset with pc := 0 } : State).pc = 0xFFFF + 1 := by decide

theorem witness_interrupts :
    (withLines false true State.reset).nmiPending = true
    ∧ (let s := withLines true false (start 0 0 0 0 0x20 [] []); s.nmiPending = false ∧ s.irqLine = true ∧ s.p.i = false)
    ∧ Plain State.reset 0xFFFA ∧ Plain State.reset 0xFFFF := by
  refine ⟨?_, ?_, ⟨rfl, rfl⟩, ⟨rfl, rfl⟩⟩ <;> decide

/-- A running machine with an instruction at PC, both ways of having no interrupt to take. -/
theorem witness_StepRunsDecoded :
    let s := start 0 0 0 0xFD 0x24 [] [0x4C, 0x00, 0x02]
    s.runStatus = .running ∧ s.nmiPending = false ∧ s.irqLine = false ∧ (withLines true false s).p.i = true
    ∧ (∀ k < 3, hookAt s.hooks.readers (s.pc + BitVec.ofNat 16 k).toNat = none)
    ∧ decode [s.ramByte s.pc, s.ramByte (s.pc + 1), s.ramByte (s.pc + 2)] = .ok (.jmp (.absolute 0x0200), [])
    ∧ ∃ t, exec (.jmp (.absolute 0x0200)) (s.setPc 0x0203) = .next t :=
  ⟨rfl, rfl, rfl, rfl, fun _ _ => rfl, rfl, ⟨_, rfl⟩⟩

theorem witness_CatchUpLeavesCpu :
    State.reset.cfg.platform = .bare ∧ (c64 7 7).cfg.platform = .c64 .pal
    ∧ (let s := { c64 7 7 with cfg := { (c64 7 7).cfg with badlineStolenCycles := some (.number 0) } }
       s.cfg.platform = .c64 .pal ∧ s.cfg.badlineStolenCycles = some (.number 0)
       ∧ s.dev.vic.cycleInLine + s.stepCycles < (timingOf s.cfg .pal).cyclesPerLine) :=
  ⟨rfl, rfl, rfl, rfl, by decide⟩

/-- One line entered, in the first and in the last cycle of a step, with 43 cycles stolen on it. -/
theorem witness_CatchUp_oneLine :
    ∀ k ∈ [1, 7],
      let s := { c64 7 7 with
        cfg := { (c64 7 7).cfg with badlineStolenCycles := some (.number 43) }
        stepCycles := 7
        dev := { Devices.reset with vic := vicAt 50 (63 - k) } }
      s.dev.vic.cycleInLine + k = (timingOf s.cfg .pal).cyclesPerLine ∧ k ≤ s.stepCycles
      ∧ s.stepCycles - k + vicFnValue (vicAdvance (timingOf s.cfg .pal) k s.dev.vic).rasterLine
          (vicAdvance (timingOf s.cfg .pal) k s.dev.vic) (.number 43) < (timingOf s.cfg .pal).cyclesPerLine := by decide

/-- A step is taken, on either platform. -/
theorem witness_step :
    (match step State.reset with | .next t => t.pc == 0 && t.sp == 0xFA | _ => false) = true
    ∧ (match cpuStep (c64 7 7) with | .next t => t.lastResult.opcode == 7 | _ => false) = true := by decide +kernel

/-- The invariant holds of a C64 with its hooks, its port and RAM set, and the raster at the end of a frame. -/
theorem witness_StepKeepsInvariant :
    State.Inv { c64 7 7 with dev := { Devices.reset with vic := vicAt 311 62 } } := by
  have voice : Voice.Sound Voice.reset := ⟨by simp [Voice.reset], by simp [Voice.reset], fun _ => rfl⟩
  have log : FrameLog.Sound ⟨[], []⟩ := ⟨rfl, fun w h => nomatch h⟩
  refine ⟨rfl, ⟨⟨rfl, log, log, fun w h => nomatch h⟩, voice, voice, voice, ⟨rfl, rfl⟩, ⟨rfl, rfl⟩, rfl,
    fun c h => nomatch h⟩, ?_⟩
  intro m h _
  obtain rfl : VicModel.pal = m := by injection h
  exact ⟨by decide, by decide⟩

/-- Each clause's change happens. -/
theorem witness_OnlyNamedWriters :
    (match exec .inx State.reset with | .next t => t.x != State.reset.x && t.p.n == State.reset.p.n | _ => false) = true
    ∧ (match exec .dey State.reset with | .next t => t.y != State.reset.y && t.p.n != State.reset.p.n | _ => false) = true
    ∧ (match exec (.lda (.immediate 1)) State.reset with | .next t => t.a != State.reset.a | _ => false) = true
    ∧ (match exec .pha State.reset with | .next t => t.sp != State.reset.sp | _ => false) = true
    ∧ (match exec .clv (start 0 0 0 0 0x40 [] []) with | .next t => !t.p.v | _ => false) = true
    ∧ (match exec .sed State.reset with | .next t => t.p.d | _ => false) = true
    ∧ (match exec .sec State.reset with | .next t => t.p.c | _ => false) = true
    ∧ (match exec .cli State.reset with | .next t => !t.p.i | _ => false) = true
    ∧ (match exec (.jsr 0x1234) State.reset with | .next t => t.pc == 0x1234 | _ => false) = true := by decide

theorem witness_PlacedWordIsFetched :
    State.reset.ram.wf ramSize = true
    ∧ ∀ k < 3, hookAt ({ State.reset with pc := 0xFFFF } : State).hooks.readers ((0xFFFF : Word) + BitVec.ofNat 16 k).toNat = none :=
  ⟨rfl, fun _ _ => rfl⟩

/-- Addresses with no hook, an address of a mapped buffer in both tables, a byte inside the buffer, a hooked device
register, and a specified bit of a register of each chip that reads one. -/
theorem witness_AccessesFollowHooks :
    hookAt State.reset.hooks.readers 0xFFFF = none ∧ hookAt State.reset.hooks.writers 0xFFFF = none
    ∧ (match withBuffers.mapRam 0xC000 1 with
      | .ok s => hookAt s.hooks.readers 0xC001 == some (.buffer 1 0, 1)
          && hookAt s.hooks.writers 0xC001 == some (.buffer 1 0, 1)
          && decide (1 < s.dev.buffers.length) && decide (1 < (s.dev.buffers.getD 1 []).length)
      | .error _ => false) = true
    ∧ hookAt ((State.reset.mapReader 0xFFFF (.register (.cia1 0xD))).mapWriter 0 (.register .expansion)).hooks.readers
        0xFFFF = some (.register (.cia1 0xD), 0)
    ∧ hookAt ((State.reset.mapReader 0xFFFF (.register (.cia1 0xD))).mapWriter 0 (.register .expansion)).hooks.writers
        0 = some (.register .expansion, 0)
    ∧ Devices.reset.colourRam.wf 1024 = true ∧ (vicReadMask 0x3F).getLsbD 7 = true ∧ (vicReadMask 0x20).getLsbD 3 = true
    ∧ (ciaReadMask .cia1 Cia.reset 0xF).getLsbD 7 = true ∧ (ciaReadMask .cia2 Cia.reset 0xF).getLsbD 7 = true := by
  decide

/-- Each configuration a clause asks for, and the windows' ends. -/
theorem witness_BankSelection :
    (c64 7 7).hooks = c64Hooks
    ∧ [(c64 7 7), (c64 4 7), (c64 3 7), (c64 0 0)].map (fun s => bankOf s.ram)
      = [⟨true, true, true⟩, ⟨false, false, true⟩, ⟨true, true, false⟩, ⟨true, true, true⟩]
    ∧ [0x9FFF, 0xA000, 0xBFFF, 0xC000, 0xCFFF, 0xD000, 0xDFFF, 0xE000, 0xFFFF].map (hookAt c64Hooks.readers)
      = [none, some (.basicWindow, 0), some (.basicWindow, 0x1FFF), none, none, some (.ioWindow, 0),
         some (.ioWindow, 0xFFF), some (.kernalWindow, 0), some (.kernalWindow, 0x1FFF)] := by decide

/-- Images of R6's lengths. -/
theorem witness_BankSelection_images :
    let r : Roms := ⟨List.replicate 8192 0, List.replicate 8192 0, List.replicate 4096 0⟩
    ({ c64 7 7 with cfg := { (c64 7 7).cfg with roms := r } }).hooks = c64Hooks
    ∧ r.kernal.length = 8192 ∧ r.basic.length = 8192 ∧ r.chargen.length = 4096 :=
  ⟨rfl, List.length_replicate, List.length_replicate, List.length_replicate⟩

/-- A register of each kind that reads back, at the ends of its bits, and one that ignores writes. -/
theorem witness_VicRegisters :
    Vic.reset.regs.wf 64 = true
    ∧ [(0x00, 7), (0x11, 6), (0x16, 4), (0x18, 1), (0x1A, 3), (0x2E, 3)].all
        (fun (r, i) => decide (r < 0x2F) && (vicReadMask r).getLsbD i) = true
    ∧ (let v := vicWrite (vicWrite (vicAt 300 0) 0x11 0x1B) 0x3F 0x55
       [vicReadValue v 0x11, vicReadValue v 0x12, vicReadValue v 0x3F]) = [0x9B, 0x2C, 0xFF] := by decide

theorem witness_raster : (vicAt 311 62).InFrame ⟨63, 312⟩ ∧ (vicAt 0 0).InFrame ⟨64, 262⟩ :=
  ⟨⟨by decide, by decide⟩, ⟨by decide, by decide⟩⟩

/-- Timer B and timer A: started in continuous and in one-shot mode, stopped, at the ends of the counter's range. -/
theorem witness_TimerPeriod :
    let c := { Cia.reset with timerA := ⟨0xFFFF, 0x0000, 0x01⟩, timerB := ⟨0x0000, 0xFFFF, 0x09⟩ }
    timerStarted c.timerA = true ∧ timerOneShot c.timerA = false ∧ 0xFFFF ≤ c.timerA.counter.toNat
    ∧ timerStarted c.timerB = true ∧ timerOneShot c.timerB = true ∧ c.timerB.counter.toNat < 1
    ∧ timerStarted Cia.reset.timerA = false := by decide

/-- A control write of each kind, and a gate that was up or down. -/
theorem witness_GateMovesPhase :
    (0x0F : Byte).toNat / 16 = 0 ∧ (0x11 : Byte).toNat / 16 ≠ 0 ∧ (0x11 : Byte).getLsbD 0 = true
    ∧ (0x10 : Byte).getLsbD 0 = false ∧ Voice.reset.control.getLsbD 0 = false ∧ Voice.reset.phase = .idle
    ∧ ({ Voice.reset with control := 0x11, phase := .attack } : Voice).control.getLsbD 0 = true := by decide

theorem witness_EnvelopeRamps :
    [Phase.idle, .attack, .decay, .sustain, .release].map (fun p => ({ Voice.reset with phase := p } : Voice).phase)
      = [.idle, .attack, .decay, .sustain, .release]
    ∧ 0 < 1 ∧ ({ Config.default with sidClockHz := some 1 } : Config).sidClockHz = some 1
    ∧ ({ Config.default with ntscOldTiming := some ⟨64, 262⟩ } : Config).ntscOldTiming = some ⟨64, 262⟩ := by decide

theorem witness_RasterEffects :
    vicWriteIgnored 0x00 = false ∧ vicWriteIgnored 0x2E = false ∧ (0x2E : Nat) ≠ 0x19 ∧ 99 < (vicAt 100 0).rasterLine
    ∧ (vicAt 100 0).rasterLine ≤ 100 := by decide

theorem witness_ResetValues : Plain State.reset 0xFFFC ∧ Plain State.reset 0xFFFD := ⟨⟨rfl, rfl⟩, ⟨rfl, rfl⟩⟩

/-- A CPU step that ends running, of each kind: BRK with STOP_ON_BRK, a budget of 1 instruction, a budget of 1 cycle, a
triggering evaluator, none; and one that ends stopped. -/
theorem witness_StopOrder :
    let next := fun s : State => match cpuStep s with | .next c => some c.runStatus | _ => none
    let nop : Config → State := fun c => { State.reset with ram := [(0, 0xEA)], cfg := c }
    let d := Config.default
    State.reset.runStatus = .running
    ∧ ([{ State.reset with cfg := { d with stopOnBrk := true } }, nop { d with maxInstructions := some 1 },
        nop { d with maxCycles := some 1 }, nop { d with evaluators := [⟨.aIs 0, .other, ""⟩] }, nop d].map next)
      = [some .running, some .running, some .running, some .running, some .running]
    ∧ next { State.reset with ram := [(0, 0x02)] } = some (.stopped (.unknownOpcode 0x02 0))
    ∧ poll State.reset = .instruction ∧ (fetchInstr State.reset).instr = .brk ∧ (fetchInstr (nop d)).instr = .nop := by
  decide

/-- The run status that each of those steps leaves (R161). -/
theorem test_stop_order :
    let left := fun s : State => match step s with | .next t => some t.runStatus | _ => none
    let nop : Config → State := fun c => { State.reset with ram := [(0, 0xEA)], cfg := c }
    let d := Config.default
    ([{ State.reset with cfg := { d with stopOnBrk := true } }, nop { d with maxInstructions := some 1 },
        nop { d with maxCycles := some 1 }, nop { d with evaluators := [⟨.aIs 0, .other, ""⟩] }, nop d].map left)
      = [some (.stopped .brk), some (.stopped .instructionLimit), some (.stopped .cycleLimit), some (.stopped .other),
         some .running] := by decide

theorem witness_BreakpointTriggers :
    [((1 : Word), true), (0, true), (0, false)] = [(1, true)] ++ (State.reset.pc, true) :: [(0, false)]
    ∧ (∀ b ∈ [((1 : Word), true)], b.1 ≠ State.reset.pc)
    ∧ (∀ b ∈ [((0 : Word), false), (1, true)], b.1 = State.reset.pc → b.2 = false)
    ∧ predHolds State.reset (.aIs 0x00) = true ∧ predHolds State.reset (.aIs 0x01) = false := by
  refine ⟨rfl, ?_, ?_, rfl, rfl⟩ <;> simp [State.reset]

theorem witness_LoaderPlacesBytes :
    State.reset.ram.wf ramSize = true ∧ State.reset.hooks.writers = []
    ∧ (∃ t r, State.reset.loadWithHeader (0xFF :: 0xFF :: [1, 2]) = some (t, r)) ∧ [1, 2].length ≤ 65536 :=
  ⟨rfl, rfl, ⟨_, _, rfl⟩, by decide⟩

end Sys2Proof.Tests
end

section
/-! PROOFS. Which CPU registers and flags each instruction can change (R12 to R15, R19 to R24). `ChangesOnly` names the
registers and flags that may differ between two states; one rule per state operation extends it, one lemma per shared
form of instruction follows, and O45 is read off the 57 instructions. -/

namespace Sys2Proof.Machine

/-! ### Registers, flags and their writers -/

/-- The CPU registers other than P. -/
inductive Reg where
  | a | x | y | sp | pc
  deriving DecidableEq

/-- The flags of P. -/
inductive Flag where
  | n | v | d | i | z | c
  deriving DecidableEq

/-- The register holds the same value in both states. -/
def Reg.Same (s t : State) : Reg → Prop
  | .a => t.a = s.a
  | .x => t.x = s.x
  | .y => t.y = s.y
  | .sp => t.sp = s.sp
  | .pc => t.pc = s.pc

/-- The value of a flag. -/
def Status.flag (p : Status) : Flag → Bool
  | .n => p.n
  | .v => p.v
  | .d => p.d
  | .i => p.i
  | .z => p.z
  | .c => p.c

/-- R12 to R15: the instructions that write a register; for PC, beyond the fetch. -/
def Reg.writers : Reg → List Mnemonic
  | .a => [.lda, .pla, .txa, .tya, .adc, .sbc, .and, .ora, .eor, .asl, .lsr, .rol, .ror]
  | .x => [.ldx, .tax, .tsx, .inx, .dex]
  | .y => [.ldy, .tay, .iny, .dey]
  | .sp => [.txs, .pha, .php, .pla, .plp, .jsr, .rts, .rti, .brk]
  | .pc => [.jmp, .jsr, .rts, .rti, .brk, .undefined, .bpl, .bmi, .bvc, .bvs, .bcc, .bcs, .bne, .beq]

/-- R19 to R24: the instructions that write a flag. -/
def Flag.writers : Flag → List Mnemonic
  | .n | .z => [.adc, .sbc, .and, .ora, .eor, .cmp, .cpx, .cpy, .bit, .asl, .lsr, .rol, .ror, .inc, .dec, .inx, .iny,
      .dex, .dey, .lda, .ldx, .ldy, .tax, .tay, .txa, .tya, .tsx, .pla, .plp, .rti]
  | .v => [.adc, .sbc, .bit, .clv, .plp, .rti]
  | .d => [.sed, .cld, .plp, .rti]
  | .i => [.sei, .cli, .brk, .plp, .rti]
  | .c => [.adc, .sbc, .cmp, .cpx, .cpy, .asl, .rol, .lsr, .ror, .clc, .sec, .plp, .rti]

/-! ### The flags that an operation on P can change -/

/-- From p to q only these flags can change. -/
def FlagsOnly (fs : List Flag) (p q : Status) : Prop := ∀ f, f ∉ fs → q.flag f = p.flag f

theorem flagsOnly_iff {fs : List Flag} {p q : Status} :
    FlagsOnly fs p q ↔ (.n ∈ fs ∨ q.n = p.n) ∧ (.v ∈ fs ∨ q.v = p.v) ∧ (.d ∈ fs ∨ q.d = p.d)
      ∧ (.i ∈ fs ∨ q.i = p.i) ∧ (.z ∈ fs ∨ q.z = p.z) ∧ (.c ∈ fs ∨ q.c = p.c) := by
  simp only [or_iff_not_imp_left]
  constructor
  · exact fun h => ⟨h .n, h .v, h .d, h .i, h .z, h .c⟩
  · rintro ⟨hn, hv, hd, hi, hz, hc⟩ (_ | _ | _ | _ | _ | _)
    exacts [hn, hv, hd, hi, hz, hc]

section
variable (a m v : Byte) (p : Status)

theorem setNZ_flagsOnly : FlagsOnly [.n, .z] p (setNZ p v) := by simp [flagsOnly_iff, setNZ]

theorem adc_flagsOnly : FlagsOnly [.n, .v, .z, .c] p (adc a m p).2 := by
  unfold adc
  split
  · simp [flagsOnly_iff, adcDecimal]
  · simp [flagsOnly_iff, adcBinary, setNZ]

theorem sbc_flagsOnly : FlagsOnly [.n, .v, .z, .c] p (sbc a m p).2 := by simp [flagsOnly_iff, sbc, sbcBinary, setNZ]

theorem compareFlags_flagsOnly : FlagsOnly [.n, .z, .c] p (compareFlags a m p) := by
  simp [flagsOnly_iff, compareFlags, setNZ]

theorem bitFlags_flagsOnly : FlagsOnly [.n, .v, .z] p (bitFlags a m p) := by simp [flagsOnly_iff, bitFlags]

theorem aslOp_flagsOnly : FlagsOnly [.n, .z, .c] p (aslOp v p).2 := by simp [flagsOnly_iff, aslOp, setNZ]

theorem lsrOp_flagsOnly : FlagsOnly [.n, .z, .c] p (lsrOp v p).2 := by simp [flagsOnly_iff, lsrOp, setNZ]

theorem rolOp_flagsOnly : FlagsOnly [.n, .z, .c] p (rolOp v p).2 := by simp [flagsOnly_iff, rolOp, setNZ]

theorem rorOp_flagsOnly : FlagsOnly [.n, .z, .c] p (rorOp v p).2 := by simp [flagsOnly_iff, rorOp, setNZ]

/-- R17: a pulled byte replaces all six flags. -/
theorem flagsOnly_all (q : Status) : FlagsOnly [.n, .v, .d, .i, .z, .c] p q := by simp [flagsOnly_iff]

end

/-! ### One rule per state operation -/

/-- From s to t only these registers and these flags can change. -/
structure ChangesOnly (rs : List Reg) (fs : List Flag) (s t : State) : Prop where
  regs : ∀ r, r ∉ rs → r.Same s t
  flags : FlagsOnly fs s.p t.p

namespace ChangesOnly

variable {rs : List Reg} {fs : List Flag} {s t : State}

theorem refl (s : State) : ChangesOnly rs fs s s := ⟨fun r _ => by cases r <;> rfl, fun _ _ => rfl⟩

theorem setA (h : ChangesOnly rs fs s t) (v : Byte) (hr : .a ∈ rs) : ChangesOnly rs fs s (t.setA v) where
  regs
    | .a, hn => absurd hr hn
    | .x, hn | .y, hn | .sp, hn | .pc, hn => h.regs _ hn
  flags := h.flags

theorem setX (h : ChangesOnly rs fs s t) (v : Byte) (hr : .x ∈ rs) : ChangesOnly rs fs s (t.setX v) where
  regs
    | .x, hn => absurd hr hn
    | .a, hn | .y, hn | .sp, hn | .pc, hn => h.regs _ hn
  flags := h.flags

theorem setY (h : ChangesOnly rs fs s t) (v : Byte) (hr : .y ∈ rs) : ChangesOnly rs fs s (t.setY v) where
  regs
    | .y, hn => absurd hr hn
    | .a, hn | .x, hn | .sp, hn | .pc, hn => h.regs _ hn
  flags := h.flags

theorem setSp (h : ChangesOnly rs fs s t) (v : Byte) (hr : .sp ∈ rs) : ChangesOnly rs fs s (t.setSp v) where
  regs
    | .sp, hn => absurd hr hn
    | .a, hn | .x, hn | .y, hn | .pc, hn => h.regs _ hn
  flags := h.flags

theorem setPc (h : ChangesOnly rs fs s t) (v : Word) (hr : .pc ∈ rs) : ChangesOnly rs fs s (t.setPc v) where
  regs
    | .pc, hn => absurd hr hn
    | .a, hn | .x, hn | .y, hn | .sp, hn => h.regs _ hn
  flags := h.flags

/-- The new flags are compared with those of the first state: what t did to the flags is overwritten. -/
theorem setP {fs' : List Flag} {q : Status} (h : ChangesOnly rs fs s t) (hq : FlagsOnly fs' s.p q) :
    ChangesOnly rs fs' s (t.setP q) := ⟨h.regs, hq⟩

theorem retire (h : ChangesOnly rs fs s t) (i : Instr) (k : Nat) : ChangesOnly rs fs s (t.retire i k) :=
  ⟨h.regs, h.flags⟩

theorem withDev (h : ChangesOnly rs fs s t) (d : Devices) : ChangesOnly rs fs s (t.withDev d) := ⟨h.regs, h.flags⟩

theorem memWrite (h : ChangesOnly rs fs s t) (a : Word) (b : Byte) : ChangesOnly rs fs s (t.memWrite a b) :=
  ⟨h.regs, h.flags⟩

theorem memRead (h : ChangesOnly rs fs s t) (a : Word) : ChangesOnly rs fs s (t.memRead a).2 := h.withDev _

theorem read16 (h : ChangesOnly rs fs s t) (a : Word) : ChangesOnly rs fs s (t.read16 a).2 := (h.memRead a).memRead _

theorem effAddr (h : ChangesOnly rs fs s t) (m : MemOperand) : ChangesOnly rs fs s (effAddr t m).st :=
  effAddr_st t m ▸ h.withDev _

theorem readOperand (h : ChangesOnly rs fs s t) (o : ReadOperand) : ChangesOnly rs fs s (readOperand t o).st :=
  readOperand_st t o ▸ h.withDev _

theorem jumpTarget (h : ChangesOnly rs fs s t) (j : JumpOperand) : ChangesOnly rs fs s (jumpTarget t j).2 :=
  jumpTarget_st t j ▸ h.withDev _

theorem push (h : ChangesOnly rs fs s t) (v : Byte) (hr : .sp ∈ rs) : ChangesOnly rs fs s (t.push v) :=
  (h.memWrite _ v).setSp _ hr

theorem pull (h : ChangesOnly rs fs s t) (hr : .sp ∈ rs) : ChangesOnly rs fs s t.pull.2 := (h.setSp _ hr).memRead _

theorem pushWord (h : ChangesOnly rs fs s t) (w : Word) (hr : .sp ∈ rs) : ChangesOnly rs fs s (t.pushWord w) :=
  (h.push _ hr).push _ hr

theorem pullWord (h : ChangesOnly rs fs s t) (hr : .sp ∈ rs) : ChangesOnly rs fs s t.pullWord.2 :=
  (h.pull hr).pull hr

end ChangesOnly

/-- R137, R154: an entry moves SP and PC and sets I. -/
theorem takeException_changesOnly (s : State) (ret : Word) (image : Byte) (vector : Word) :
    ChangesOnly [.sp, .pc] [.i] s (s.takeException ret image vector) :=
  have hpushed := ((ChangesOnly.refl (fs := []) s).pushWord ret (by decide)).push image (by decide)
  ((hpushed.setP (by simp [flagsOnly_iff])).read16 vector).setPc _ (by decide)

/-- R127: the return moves SP and PC and replaces every flag. -/
theorem returnFromException_changesOnly (s : State) :
    ChangesOnly [.sp, .pc] [.n, .v, .d, .i, .z, .c] s s.returnFromException :=
  have hflags := ((ChangesOnly.refl (fs := []) s).pull (by decide)).setP (flagsOnly_all _ _)
  (hflags.pullWord (by decide)).setPc _ (by decide)

/-! ### The shared forms of instruction -/

section
variable {i : Instr} {o : ReadOperand} {m : MemOperand} {fs : List Flag} {rs : List Reg} {s t : State}

theorem loadWith_changesOnly {set : State → Byte → State} {r : Reg}
    (hset : ∀ u v, ChangesOnly [r] [] s u → ChangesOnly [r] [] s (set u v)) (h : loadWith i o set s = .next t) :
    ChangesOnly [r] [.n, .z] s t := by
  cases h
  exact ((hset _ _ ((ChangesOnly.refl s).readOperand o)).setP (setNZ_flagsOnly _ _)).retire _ _

theorem storeWith_changesOnly {v : Byte} (h : storeWith i m v s = .next t) : ChangesOnly [] [] s t := by
  cases h
  exact (((ChangesOnly.refl s).effAddr m).memWrite _ _).retire _ _

theorem moveWith_changesOnly {set : State → Byte → State} {r : Reg} {v : Byte}
    (hset : ∀ u v, ChangesOnly [r] [] s u → ChangesOnly [r] [] s (set u v)) (h : moveWith i v set s = .next t) :
    ChangesOnly [r] [.n, .z] s t := by
  cases h
  exact ((hset _ _ (ChangesOnly.refl s)).setP (setNZ_flagsOnly _ _)).retire _ _

theorem accumulateWith_changesOnly {op : Byte → Byte → Status → Byte × Status}
    (h : accumulateWith i o op s = .next t) (hop : ∀ a m p, FlagsOnly fs p (op a m p).2) :
    ChangesOnly [.a] fs s t := by
  cases h
  exact ((((ChangesOnly.refl (fs := []) s).readOperand o).setA _ (by decide)).setP (hop _ _ _)).retire _ _

theorem testWith_changesOnly {op : Byte → Status → Status} (h : testWith i o op s = .next t)
    (hop : ∀ m p, FlagsOnly fs p (op m p)) : ChangesOnly [] fs s t := by
  cases h
  exact (((ChangesOnly.refl (fs := []) s).readOperand o).setP (hop _ _)).retire _ _

theorem modifyWith_changesOnly {op : Byte → Status → Byte × Status} (h : modifyWith i m op s = .next t)
    (hop : ∀ v p, FlagsOnly fs p (op v p).2) : ChangesOnly rs fs s t := by
  cases h
  exact (((((ChangesOnly.refl (fs := []) s).effAddr m).memRead _).memWrite _ _).setP (hop _ _)).retire _ _

theorem shiftWith_changesOnly {o : ShiftOperand} {op : Byte → Status → Byte × Status}
    (h : shiftWith i o op s = .next t) (hop : ∀ v p, FlagsOnly fs p (op v p).2) : ChangesOnly [.a] fs s t := by
  cases o with
  | accumulator =>
    cases h
    exact (((ChangesOnly.refl (fs := []) s).setA _ (by decide)).setP (hop _ _)).retire _ _
  | memory m => exact modifyWith_changesOnly h hop

theorem branchWith_changesOnly {off : Byte} {taken : Bool} (h : branchWith i off taken s = .next t) :
    ChangesOnly [.pc] [] s t := by
  cases h
  cases taken with
  | true => exact ((ChangesOnly.refl s).setPc _ (by decide)).retire _ _
  | false => exact (ChangesOnly.refl s).retire _ _

/-- What the seven flag instructions share (R139 to R145). -/
theorem setP_retire_changesOnly {q : Status} (hq : FlagsOnly fs s.p q)
    (h : (.next ((s.setP q).retire i 0) : Out) = .next t) : ChangesOnly [] fs s t := by
  cases h
  exact ((ChangesOnly.refl (fs := []) s).setP hq).retire _ _

/-- R150: under `Stop` PC goes back to the opcode; under `SkipAsNop` no register changes. -/
theorem execUndefined_changesOnly {op : Byte} (h : execUndefined op s = .next t) : ChangesOnly [.pc] [] s t := by
  unfold execUndefined at h
  split at h
  · cases h
    exact ⟨((ChangesOnly.refl (fs := []) s).setPc (s.pc - 1) (by decide)).regs, fun _ _ => rfl⟩
  · cases h
    exact ⟨(ChangesOnly.refl (fs := []) s).regs, fun _ _ => rfl⟩

end

/-! ### Every instruction -/

/-- A register or a flag that differs between the two states has the mnemonic among its writers. -/
structure ChangedByWriter (m : Mnemonic) (s t : State) : Prop where
  reg : ∀ r : Reg, ¬ r.Same s t → m ∈ r.writers
  flag : ∀ f : Flag, t.p.flag f ≠ s.p.flag f → m ∈ f.writers

theorem ChangesOnly.byWriter {rs : List Reg} {fs : List Flag} {s t : State} (h : ChangesOnly rs fs s t) (m : Mnemonic)
    (hr : ∀ r ∈ rs, m ∈ r.writers := by decide) (hf : ∀ f ∈ fs, m ∈ f.writers := by decide) :
    ChangedByWriter m s t where
  reg r hne := hr r (by_contra fun hn => hne (h.regs r hn))
  flag f hne := hf f (by_contra fun hn => hne (h.flags f hn))

/-- R12 to R15, R19 to R24: an instruction changes only registers and flags that it is a writer of. -/
theorem exec_changedByWriter {i : Instr} {s t : State} (h : exec i s = .next t) : ChangedByWriter i.mnemonic s t := by
  have setA : ∀ u v, ChangesOnly [.a] [] s u → ChangesOnly [.a] [] s (u.setA v) :=
    fun _ v hu => hu.setA v (by decide)
  have setX : ∀ u v, ChangesOnly [.x] [] s u → ChangesOnly [.x] [] s (u.setX v) :=
    fun _ v hu => hu.setX v (by decide)
  have setY : ∀ u v, ChangesOnly [.y] [] s u → ChangesOnly [.y] [] s (u.setY v) :=
    fun _ v hu => hu.setY v (by decide)
  cases i with
  | lda o => exact (loadWith_changesOnly setA h).byWriter .lda
  | ldx o => exact (loadWith_changesOnly setX h).byWriter .ldx
  | ldy o => exact (loadWith_changesOnly setY h).byWriter .ldy
  | sta m => exact (storeWith_changesOnly h).byWriter .sta
  | stx m => exact (storeWith_changesOnly h).byWriter .stx
  | sty m => exact (storeWith_changesOnly h).byWriter .sty
  | tax => exact (moveWith_changesOnly setX h).byWriter .tax
  | tay => exact (moveWith_changesOnly setY h).byWriter .tay
  | txa => exact (moveWith_changesOnly setA h).byWriter .txa
  | tya => exact (moveWith_changesOnly setA h).byWriter .tya
  | tsx => exact (moveWith_changesOnly setX h).byWriter .tsx
  | txs =>
    cases h
    exact (((ChangesOnly.refl s).setSp _ (by decide)).retire _ _ : ChangesOnly [.sp] [] s _).byWriter .txs
  | pha =>
    cases h
    exact (((ChangesOnly.refl s).push _ (by decide)).retire _ _ : ChangesOnly [.sp] [] s _).byWriter .pha
  | php =>
    cases h
    exact (((ChangesOnly.refl s).push _ (by decide)).retire _ _ : ChangesOnly [.sp] [] s _).byWriter .php
  | pla =>
    cases h
    have hpulled : ChangesOnly [.sp, .a] [] s s.pull.2 := (ChangesOnly.refl s).pull (by decide)
    exact (((hpulled.setA _ (by decide)).setP (setNZ_flagsOnly _ _)).retire _ _).byWriter .pla
  | plp =>
    cases h
    have hpulled : ChangesOnly [.sp] [] s s.pull.2 := (ChangesOnly.refl s).pull (by decide)
    exact ((hpulled.setP (flagsOnly_all _ _)).retire _ _).byWriter .plp
  | adc o => exact (accumulateWith_changesOnly h adc_flagsOnly).byWriter .adc
  | sbc o => exact (accumulateWith_changesOnly h sbc_flagsOnly).byWriter .sbc
  | cmp o => exact (testWith_changesOnly h (compareFlags_flagsOnly _)).byWriter .cmp
  | cpx o => exact (testWith_changesOnly h (compareFlags_flagsOnly _)).byWriter .cpx
  | cpy o => exact (testWith_changesOnly h (compareFlags_flagsOnly _)).byWriter .cpy
  | inc m =>
    have h' : execInc m s = .next t := h
    exact (modifyWith_changesOnly (rs := []) h' fun v p => setNZ_flagsOnly (v + 1) p).byWriter .inc
  | dec m =>
    have h' : execDec m s = .next t := h
    exact (modifyWith_changesOnly (rs := []) h' fun v p => setNZ_flagsOnly (v - 1) p).byWriter .dec
  | inx => exact (moveWith_changesOnly setX h).byWriter .inx
  | iny => exact (moveWith_changesOnly setY h).byWriter .iny
  | dex => exact (moveWith_changesOnly setX h).byWriter .dex
  | dey => exact (moveWith_changesOnly setY h).byWriter .dey
  | and o =>
    have h' : execAnd o s = .next t := h
    exact (accumulateWith_changesOnly h' fun _ _ p => setNZ_flagsOnly _ p).byWriter .and
  | ora o =>
    have h' : execOra o s = .next t := h
    exact (accumulateWith_changesOnly h' fun _ _ p => setNZ_flagsOnly _ p).byWriter .ora
  | eor o =>
    have h' : execEor o s = .next t := h
    exact (accumulateWith_changesOnly h' fun _ _ p => setNZ_flagsOnly _ p).byWriter .eor
  | bit o => exact (testWith_changesOnly h (bitFlags_flagsOnly _)).byWriter .bit
  | asl o => exact (shiftWith_changesOnly h aslOp_flagsOnly).byWriter .asl
  | lsr o => exact (shiftWith_changesOnly h lsrOp_flagsOnly).byWriter .lsr
  | rol o => exact (shiftWith_changesOnly h rolOp_flagsOnly).byWriter .rol
  | ror o => exact (shiftWith_changesOnly h rorOp_flagsOnly).byWriter .ror
  | jmp j =>
    cases h
    have htarget : ChangesOnly [.pc] [] s (jumpTarget s j).2 := (ChangesOnly.refl s).jumpTarget j
    exact ((htarget.setPc _ (by decide)).retire _ _).byWriter .jmp
  | jsr w =>
    cases h
    have hpushed : ChangesOnly [.sp, .pc] [] s (s.pushWord (s.pc - 1)) := (ChangesOnly.refl s).pushWord _ (by decide)
    exact ((hpushed.setPc _ (by decide)).retire _ _).byWriter .jsr
  | rts =>
    cases h
    have hpulled : ChangesOnly [.sp, .pc] [] s s.pullWord.2 := (ChangesOnly.refl s).pullWord (by decide)
    exact ((hpulled.setPc _ (by decide)).retire _ _).byWriter .rts
  | rti =>
    cases h
    exact ((returnFromException_changesOnly s).retire _ _).byWriter .rti
  | bpl off => exact (branchWith_changesOnly h).byWriter .bpl
  | bmi off => exact (branchWith_changesOnly h).byWriter .bmi
  | bvc off => exact (branchWith_changesOnly h).byWriter .bvc
  | bvs off => exact (branchWith_changesOnly h).byWriter .bvs
  | bcc off => exact (branchWith_changesOnly h).byWriter .bcc
  | bcs off => exact (branchWith_changesOnly h).byWriter .bcs
  | bne off => exact (branchWith_changesOnly h).byWriter .bne
  | beq off => exact (branchWith_changesOnly h).byWriter .beq
  | brk =>
    cases h
    exact ((takeException_changesOnly s _ _ _).retire _ _).byWriter .brk
  | nop =>
    cases h
    exact ((ChangesOnly.refl s).retire _ _ : ChangesOnly [] [] s _).byWriter .nop
  | clc => exact (setP_retire_changesOnly (fs := [.c]) (by simp [flagsOnly_iff]) h).byWriter .clc
  | cld => exact (setP_retire_changesOnly (fs := [.d]) (by simp [flagsOnly_iff]) h).byWriter .cld
  | cli => exact (setP_retire_changesOnly (fs := [.i]) (by simp [flagsOnly_iff]) h).byWriter .cli
  | clv => exact (setP_retire_changesOnly (fs := [.v]) (by simp [flagsOnly_iff]) h).byWriter .clv
  | sec => exact (setP_retire_changesOnly (fs := [.c]) (by simp [flagsOnly_iff]) h).byWriter .sec
  | sed => exact (setP_retire_changesOnly (fs := [.d]) (by simp [flagsOnly_iff]) h).byWriter .sed
  | sei => exact (setP_retire_changesOnly (fs := [.i]) (by simp [flagsOnly_iff]) h).byWriter .sei
  | undefined op => exact (execUndefined_changesOnly h).byWriter .undefined

/-- Settles O45: each clause is one register or one flag of `exec_changedByWriter`. -/
theorem onlyNamedWriters : Obligations.OnlyNamedWriters := by
  intro i s t h
  obtain ⟨reg, flag⟩ := exec_changedByWriter h
  exact ⟨reg .x, reg .y, reg .a, reg .sp, flag .v, flag .c, fun hne => hne.elim (flag .z) (flag .n), flag .d, flag .i,
    reg .pc⟩

end Sys2Proof.Machine
end

section
/-! PROOFS. V is signed overflow (R22, R103, R104): the sum of two bytes and a carry does not fit in a signed byte
exactly when both operands differ in sign from the result; SBC is ADC of the complement (R104). -/

namespace Sys2Proof.Machine

theorem bit7_eq_decide (b : Byte) : bit7 b = decide (128 ≤ b.toNat) :=
  (BitVec.msb_eq_getLsbD_last b).symm.trans (BitVec.msb_eq_decide b)

theorem bit7_xor (a b : Byte) : bit7 (a ^^^ b) = (bit7 a ^^ bit7 b) := BitVec.getLsbD_xor

theorem bit7_and (a b : Byte) : bit7 (a &&& b) = (bit7 a && bit7 b) := BitVec.getLsbD_and

theorem toNat_xor_ff (m : Byte) : (m ^^^ 0xFF).toNat = 255 - m.toNat := by
  have hnot : m ^^^ 0xFF = ~~~m := BitVec.xor_allOnes
  rw [hnot, BitVec.toNat_not]

/-- The complement of M is -M - 1 as a signed number. -/
theorem toInt_xor_ff (m : Byte) : (m ^^^ 0xFF).toInt = -m.toInt - 1 := by
  have := m.isLt
  rw [BitVec.toInt_eq_toNat_cond, BitVec.toInt_eq_toNat_cond, toNat_xor_ff]
  split <;> split <;> omega

/-- R22: the sign of the result differs from the sign of both operands exactly when the signed sum does not fit. -/
theorem signs_differ_iff_overflow (a m r : Byte) (c : Nat) (hc : c ≤ 1)
    (hr : r.toNat = (a.toNat + m.toNat + c) % 256) :
    bit7 ((a ^^^ r) &&& (m ^^^ r)) = true ↔ a.toInt + m.toInt + c < -128 ∨ 127 < a.toInt + m.toInt + c := by
  have := a.isLt
  have := m.isLt
  rw [bit7_and, bit7_xor, bit7_xor, BitVec.toInt_eq_toNat_cond, BitVec.toInt_eq_toNat_cond]
  simp only [bit7_eq_decide, Bool.and_eq_true, bne_iff_ne, ne_eq, decide_eq_decide]
  split <;> split <;> omega

/-- R103: V of binary ADC. -/
theorem adcBinary_v (a m : Byte) (p : Status) :
    (adcBinary a m p).2.v = true
      ↔ a.toInt + m.toInt + carryNat p.c < -128 ∨ 127 < a.toInt + m.toInt + carryNat p.c :=
  signs_differ_iff_overflow a m _ (carryNat p.c) (by cases p.c <;> decide) (BitVec.toNat_ofNat _ _)

/-- R104: binary SBC is binary ADC of the complement of M. -/
theorem sbcBinary_eq_adcBinary (a m : Byte) (p : Status) : sbcBinary a m p = adcBinary a (m ^^^ 0xFF) p := by
  have hsign (r : Byte) : bit7 ((a ^^^ m) &&& (a ^^^ r)) = bit7 ((a ^^^ r) &&& ((m ^^^ 0xFF) ^^^ r)) := by
    have hff : bit7 0xFF = true := rfl
    simp only [bit7_and, bit7_xor, hff]
    cases bit7 a <;> cases bit7 m <;> cases bit7 r <;> rfl
  simp only [sbcBinary, adcBinary, hsign]

theorem sbcBinary_v (a m : Byte) (p : Status) :
    (sbcBinary a m p).2.v = true
      ↔ a.toInt - m.toInt - (1 - carryNat p.c) < -128 ∨ 127 < a.toInt - m.toInt - (1 - carryNat p.c) := by
  have hdiff : a.toInt - m.toInt - (1 - carryNat p.c) = a.toInt + (m ^^^ 0xFF).toInt + carryNat p.c := by
    rw [toInt_xor_ff]
    ring
  rw [sbcBinary_eq_adcBinary, adcBinary_v, hdiff]

/-- The flags after an accumulator operation. -/
theorem accumulateWith_p {i : Instr} {o : ReadOperand} {op : Byte → Byte → Status → Byte × Status} {s t : State}
    (h : accumulateWith i o op s = .next t) : t.p = (op s.a (readOperand s o).val s.p).2 := by
  cases h
  rfl

/-- Settles O17: in binary mode the flags are those of `adcBinary` and `sbcBinary`. -/
theorem overflowIsSigned : Obligations.OverflowIsSigned := by
  intro s o hbinary
  have hcarry : (if s.p.c then 1 else 0 : Int) = carryNat s.p.c := by cases s.p.c <;> rfl
  refine ⟨fun t h => ?_, fun t h => ?_⟩ <;> rw [hcarry, accumulateWith_p h]
  · simpa [adc, hbinary] using adcBinary_v s.a (readOperand s o).val s.p
  · exact sbcBinary_v s.a (readOperand s o).val s.p

end Sys2Proof.Machine
end

section
/-! PROOFS. The status byte and its pushed images (R16 to R18). -/

namespace Sys2Proof.Machine

/-- A flag's byte has the flag at its own bit and 0 at every other. -/
theorem getElem_flagBit (f : Bool) {k j : Nat} (hj : j < 8) : (flagBit f k)[j] = (f && decide (j = k)) := by
  cases f with
  | false => simp [flagBit]
  | true =>
    have hbit : (1#8 <<< k)[j] = true ↔ j = k := by simp; omega
    rw [Bool.eq_iff_iff]
    simpa [flagBit] using hbit

/-- R17: bit 5 of P reads as 1. -/
theorem getLsbD_toByte_5 (p : Status) : p.toByte.getLsbD 5 = true := by
  simp [Status.toByte, getElem_flagBit]

/-- R17: bit 4 of P reads as 0. -/
theorem getLsbD_toByte_4 (p : Status) : p.toByte.getLsbD 4 = false := by
  simp [Status.toByte, getElem_flagBit]

/-- R16: P as a number. -/
theorem toNat_toByte (p : Status) :
    p.toByte.toNat = (if p.n then 128 else 0) + (if p.v then 64 else 0) + 32 + (if p.d then 8 else 0)
      + (if p.i then 4 else 0) + (if p.z then 2 else 0) + (if p.c then 1 else 0) := by
  obtain ⟨n, v, d, i, z, c⟩ := p
  cases n <;> cases v <;> cases d <;> cases i <;> cases z <;> cases c <;> rfl

/-- Settles O36. -/
theorem statusImages : Obligations.StatusImages := fun p =>
  ⟨getLsbD_toByte_5 p, getLsbD_toByte_4 p, toNat_toByte p, rfl, pushImageHW_eq p, statusOfByte_pushImageSW p,
    statusOfByte_pushImageHW p⟩

end Sys2Proof.Machine
end

section
/-! PROOFS. The state after reset is sound (R31, R190, R191), device by device. -/

namespace Sys2Proof.Machine

theorem Vic.reset_sound : Vic.reset.Sound where
  regs := rfl
  frame := ⟨rfl, nofun⟩
  lastFrame := ⟨rfl, nofun⟩
  issued := nofun

theorem Voice.reset_sound : Voice.reset.Sound where
  low := le_rfl
  high := zero_le_one
  idle _ := rfl

theorem Cia.reset_sound : Cia.reset.Sound := ⟨rfl, rfl⟩

theorem Devices.reset_sound : Devices.reset.Sound where
  vic := Vic.reset_sound
  voice0 := Voice.reset_sound
  voice1 := Voice.reset_sound
  voice2 := Voice.reset_sound
  cia1 := Cia.reset_sound
  cia2 := Cia.reset_sound
  colour := rfl
  nibbles := nofun

/-- Settles O43: the default platform is the bare one, so the raster clause asks nothing. -/
theorem resetHasInvariant : Obligations.ResetHasInvariant where
  ram := rfl
  dev := Devices.reset_sound
  raster _ hc64 := nomatch hc64

end Sys2Proof.Machine
end

section
/-! PROOFS. Every step of a running machine answers a next state (R38, R149), with the parameters and the hook tables as
they were (R6, R35) and the invariant kept. `Continues` says so of one outcome; the rules `keeps_` of Laws/Ops.lean
compose to it for each shared form of instruction, then for the 57 instructions, the two entries, the catch-up and the
step. -/

namespace Sys2Proof.Machine

/-- The outcome is a next state, which keeps what every operation of an instruction keeps. -/
def Continues (s : State) (o : Out) : Prop := ∃ t, o = .next t ∧ Keeps s t

theorem Continues.next {s t : State} (h : Keeps s t) : Continues s (.next t) := ⟨t, rfl, h⟩

/-- An instruction ends by retiring. -/
theorem Continues.retire {s t : State} (h : Keeps s t) (i : Instr) (k : Nat) : Continues s (.next (t.retire i k)) :=
  .next (h.trans (keeps_retire t i k))

theorem Continues.of_keeps {s t : State} {o : Out} (h : Keeps s t) (k : Continues t o) : Continues s o := by
  obtain ⟨u, ho, hu⟩ := k
  exact ⟨u, ho, h.trans hu⟩

/-! ### The shared forms of instruction -/

section
variable (i : Instr) (s : State)

theorem loadWith_continues (o : ReadOperand) {set : State → Byte → State} (hset : ∀ t v, Keeps t (set t v)) :
    Continues s (loadWith i o set s) :=
  .retire (((keeps_readOperand s o).trans (hset _ _)).trans (keeps_setP _ _)) i _

theorem storeWith_continues (m : MemOperand) (v : Byte) : Continues s (storeWith i m v s) :=
  .retire ((keeps_effAddr s m).trans (keeps_memWrite _ _ v)) i _

theorem moveWith_continues (v : Byte) {set : State → Byte → State} (hset : ∀ t v, Keeps t (set t v)) :
    Continues s (moveWith i v set s) :=
  .retire ((hset s v).trans (keeps_setP _ _)) i _

theorem accumulateWith_continues (o : ReadOperand) (op : Byte → Byte → Status → Byte × Status) :
    Continues s (accumulateWith i o op s) :=
  .retire (((keeps_readOperand s o).trans (keeps_setA _ _)).trans (keeps_setP _ _)) i _

theorem testWith_continues (o : ReadOperand) (op : Byte → Status → Status) : Continues s (testWith i o op s) :=
  .retire ((keeps_readOperand s o).trans (keeps_setP _ _)) i _

theorem modifyWith_continues (m : MemOperand) (op : Byte → Status → Byte × Status) :
    Continues s (modifyWith i m op s) :=
  .retire ((((keeps_effAddr s m).trans (keeps_memRead _ _)).trans (keeps_memWrite _ _ _)).trans (keeps_setP _ _)) i _

theorem shiftWith_continues (o : ShiftOperand) (op : Byte → Status → Byte × Status) :
    Continues s (shiftWith i o op s) := by
  cases o with
  | accumulator => exact .retire ((keeps_setA s _).trans (keeps_setP _ _)) i _
  | memory m => exact modifyWith_continues i s m op

theorem branchWith_continues (off : Byte) (taken : Bool) : Continues s (branchWith i off taken s) := by
  cases taken with
  | true => exact .retire (keeps_setPc s _) i _
  | false => exact .retire (Keeps.refl s) i _

end

/-- R150: the record of an unknown opcode draws one free value. -/
theorem keeps_recordUnknown (s : State) (op : Byte) : Keeps s (s.recordUnknown op) :=
  ⟨rfl, rfl, fun h => ⟨h.ram, drawByte_sound h.dev, h.raster⟩⟩

/-- R150: under both policies the unknown opcode has a next state. -/
theorem execUndefined_continues (op : Byte) (s : State) : Continues s (execUndefined op s) := by
  unfold execUndefined
  cases s.cfg.unknownOpcodePolicy with
  | stop => exact .next ((keeps_recordUnknown s op).trans (.of_eq rfl rfl rfl rfl))
  | skipAsNop => exact .next ((keeps_recordUnknown s op).trans (.of_eq rfl rfl rfl rfl))

/-! ### Every instruction -/

/-- R38, R149: every instruction completes, in every state and with every operand. -/
theorem exec_continues (i : Instr) (s : State) : Continues s (exec i s) := by
  cases i with
  | lda o => exact loadWith_continues _ s o keeps_setA
  | ldx o => exact loadWith_continues _ s o keeps_setX
  | ldy o => exact loadWith_continues _ s o keeps_setY
  | sta m | stx m | sty m => exact storeWith_continues _ s m _
  | tax | tsx | inx | dex => exact moveWith_continues _ s _ keeps_setX
  | tay | iny | dey => exact moveWith_continues _ s _ keeps_setY
  | txa | tya => exact moveWith_continues _ s _ keeps_setA
  | txs => exact .retire (keeps_setSp s _) _ _
  | pha | php => exact .retire (keeps_push s _) _ _
  | pla => exact .retire (((keeps_pull s).trans (keeps_setA _ _)).trans (keeps_setP _ _)) _ _
  | plp => exact .retire ((keeps_pull s).trans (keeps_setP _ _)) _ _
  | adc o | sbc o | and o | ora o | eor o =>
    unfold exec
    exact accumulateWith_continues _ s o _
  | cmp o | cpx o | cpy o | bit o => exact testWith_continues _ s o _
  | inc m | dec m =>
    unfold exec
    exact modifyWith_continues _ s m _
  | asl o | lsr o | rol o | ror o => exact shiftWith_continues _ s o _
  | jmp j => exact .retire ((keeps_jumpTarget s j).trans (keeps_setPc _ _)) _ _
  | jsr w => exact .retire ((keeps_pushWord s _).trans (keeps_setPc _ _)) _ _
  | rts => exact .retire ((keeps_pullWord s).trans (keeps_setPc _ _)) _ _
  | rti => exact .retire (keeps_returnFromException s) _ _
  | bpl off | bmi off | bvc off | bvs off | bcc off | bcs off | bne off | beq off =>
    exact branchWith_continues _ s off _
  | brk => exact .retire (keeps_takeException s _ _ _) _ _
  | nop => exact .retire (Keeps.refl s) _ _
  | clc | cld | cli | clv | sec | sed | sei => exact .retire (keeps_setP s _) _ _
  | undefined op => exact execUndefined_continues op s

/-! ### The CPU step (R146) -/

theorem keeps_fetchInstr (s : State) : Keeps s (fetchInstr s).st := by
  dsimp only [fetchInstr]
  split
  · exact (keeps_fetch s).trans (keeps_fetch _)
  · exact ((keeps_fetch s).trans (keeps_fetch _)).trans (keeps_fetch _)
  · exact keeps_fetch s

theorem runInstruction_continues (s : State) : Continues s (runInstruction s) :=
  (exec_continues _ _).of_keeps (keeps_fetchInstr s)

theorem keeps_interrupt (s : State) (kind : StepKind) (vector : Word) : Keeps s (s.interrupt kind vector) :=
  (keeps_takeException s s.pc (pushImageHW s.p) vector).trans (.of_eq rfl rfl rfl rfl)

theorem keeps_nmiEntry (s : State) : Keeps s s.nmiEntry :=
  have hcleared : Keeps s { s with nmiPending := false } := .of_eq rfl rfl rfl rfl
  hcleared.trans (keeps_interrupt _ .nmiEntry nmiVector)

theorem cpuStep_continues (s : State) : Continues s (cpuStep s) := by
  unfold cpuStep
  cases poll s with
  | nmiEntry => exact .next (keeps_nmiEntry s)
  | irqEntry => exact .next (keeps_interrupt s _ _)
  | instruction | none => exact runInstruction_continues s

/-! ### The rest of the step (R164) -/

/-- R170: the catch-up keeps the raster position of the platform's own variant in its frame. -/
theorem keeps_catchUp (s : State) : Keeps s s.catchUp := by
  unfold State.catchUp
  split
  · exact .of_eq rfl rfl rfl rfl
  · rename_i m hplatform
    refine ⟨rfl, rfl, fun h => ⟨h.ram, devicesAdvance_sound _ _ _ h.dev, fun m' hm' hpositive => ?_⟩⟩
    obtain rfl : m = m' := Platform.c64.inj (hplatform.symm.trans hm')
    exact vicAdvance_inFrame hpositive _ (h.raster m hplatform hpositive)

theorem keeps_finishStep (s : State) : Keeps s s.finishStep :=
  (keeps_catchUp s).trans (.of_eq rfl rfl rfl rfl)

theorem systemStep_continues (s : State) : Continues s (systemStep s) := by
  obtain ⟨t, hcpu, hkeeps⟩ := cpuStep_continues s
  have hnext : systemStep s = .next t.finishStep := by simp only [systemStep, hcpu]
  exact ⟨_, hnext, hkeeps.trans (keeps_finishStep t)⟩

theorem step_of_running {s : State} (h : s.runStatus = .running) : step s = systemStep s := by
  simp only [step, runStep, h]

/-- R161: a run that has stopped takes no step. -/
theorem running_of_step {s t : State} (h : step s = .next t) : s.runStatus = .running := by
  cases hs : s.runStatus with
  | running => rfl
  | stopped r => simp [step, runStep, hs] at h

/-- What every step keeps. -/
theorem keeps_step {s t : State} (h : step s = .next t) : Keeps s t := by
  obtain ⟨u, hu, hkeeps⟩ := systemStep_continues s
  rw [step_of_running (running_of_step h), hu] at h
  cases h
  exact hkeeps

/-! ### The statements -/

/-- Settles O44: the invariant is one of the things that `Keeps` asks of each part of the step. -/
theorem stepKeepsInvariant : Obligations.StepKeepsInvariant := fun _ _ hinv hstep => (keeps_step hstep).inv hinv

/-- Settles O40: each of the three things the poll chooses has a next state. -/
theorem runningMachineSteps : Obligations.RunningMachineSteps := by
  intro s hrunning
  obtain ⟨t, hnext, -⟩ := systemStep_continues s
  exact ⟨t, (step_of_running hrunning).trans hnext⟩

/-- Settles O42: each part of the step keeps both. -/
theorem stepKeepsTables : Obligations.StepKeepsTables := fun _ _ hstep =>
  ⟨(keeps_step hstep).hooks, (keeps_step hstep).cfg⟩

end Sys2Proof.Machine
end

section
/-! PROOFS. A fetch from three plain cells reads what the decoder reads from their bytes (R57, R67), and the bytes laid
at PC are the ones in those cells (R54). -/

namespace Sys2Proof.Machine

/-- R57: an opcode fixes a length of 1, 2 or 3. -/
theorem opLength_cases (op : Byte) : opLength op = 1 ∨ opLength op = 2 ∨ opLength op = 3 := by
  unfold opLength
  cases hrow : rowOfOpcode op with
  | none => exact .inl rfl
  | some r =>
    have hlength : r.length = modeLength r.mode := row_length r (List.mem_of_find?_eq_some hrow)
    simp only [Option.map_some, Option.getD_some, hlength]
    cases r.mode <;> decide

theorem State.fetch_plain {s : State} (h : hookAt s.hooks.readers s.pc.toNat = none) :
    s.fetch = (s.ramByte s.pc, s.setPc (s.pc + 1)) := by
  simp only [State.fetch, State.memRead_plain h]

/-- R67: where the three cells at PC have no reader hook, the fetched instruction is the one their bytes decode to. -/
theorem decode_of_fetchInstr {s : State}
    (h : ∀ k < 3, hookAt s.hooks.readers (s.pc + BitVec.ofNat 16 k).toNat = none) :
    ∃ rest, decode [s.ramByte s.pc, s.ramByte (s.pc + 1), s.ramByte (s.pc + 2)]
      = .ok ((fetchInstr s).instr, rest) := by
  have hthird : s.pc + 1 + 1 = s.pc + 2 := by bv_omega
  have fetch0 : s.fetch = (s.ramByte s.pc, s.setPc (s.pc + 1)) := State.fetch_plain (by simpa using h 0 (by decide))
  have fetch1 : (s.setPc (s.pc + 1)).fetch = (s.ramByte (s.pc + 1), s.setPc (s.pc + 2)) := by
    rw [State.fetch_plain (h 1 (by decide)), State.setPc_pc, hthird]
    rfl
  have fetch2 : (s.setPc (s.pc + 2)).fetch.1 = s.ramByte (s.pc + 2) := by
    rw [State.fetch_plain (h 2 (by decide))]
    rfl
  rcases opLength_cases (s.ramByte s.pc) with hlength | hlength | hlength
  · simp only [fetchInstr, decode, fetch0, hlength]
    exact ⟨_, rfl⟩
  · simp only [fetchInstr, decode, fetch0, fetch1, hlength]
    exact ⟨_, rfl⟩
  · simp only [fetchInstr, decode, fetch0, fetch1, fetch2, hlength]
    exact ⟨_, rfl⟩

/-! ### Bytes laid out in RAM -/

/-- A cell that none of the bytes is laid in reads as before. -/
theorem read_layBytes_other {a c : Word} (bs : List Byte) (m : Mem)
    (h : ∀ k < bs.length, c ≠ a + BitVec.ofNat 16 k) : (layBytes m a bs).read c.toNat = m.read c.toNat := by
  induction bs generalizing a m with
  | nil => rfl
  | cons b bs ih =>
    have hfirst : a.toNat ≠ c.toNat := fun e => h 0 (by simp) (by simpa using (BitVec.eq_of_toNat_eq e).symm)
    have hrest : ∀ k < bs.length, c ≠ a + 1 + BitVec.ofNat 16 k := fun k hk e =>
      h (k + 1) (by simpa using hk) (by bv_omega)
    rw [layBytes, ih _ hrest, Mem.read_write_other m b hfirst]

/-- Byte k is laid k places on. -/
theorem read_layBytes {a : Word} {bs : List Byte} {m : Mem} (hm : m.wf ramSize = true) (hfits : bs.length ≤ 65536)
    {k : Nat} (hk : k < bs.length) : (layBytes m a bs).read (a + BitVec.ofNat 16 k).toNat = bs[k] := by
  induction bs generalizing a m k with
  | nil => simp at hk
  | cons b bs ih =>
    simp only [List.length_cons] at hfits hk
    cases k with
    | zero =>
      have hafter : ∀ j < bs.length, a ≠ a + 1 + BitVec.ofNat 16 j := fun j hj => by bv_omega
      rw [layBytes, BitVec.add_zero, read_layBytes_other bs _ hafter, Mem.read_write_same b hm, List.getElem_cons_zero]
    | succ k =>
      have hnext : a + BitVec.ofNat 16 (k + 1) = a + 1 + BitVec.ofNat 16 k := by bv_omega
      rw [layBytes, hnext, List.getElem_cons_succ]
      exact ih (Mem.wf_write b hm (word_lt_ramSize a)) (by omega) (by omega)

/-! ### The placed instruction -/

theorem decodeTableWord_of_decode {nbits w : Nat} {i : Instr} {rest : List Byte}
    (h : decode (tableWordBytes nbits w) = .ok (i, rest)) : decodeTableWord nbits w = some i := by
  simp only [tableWordBytes] at h
  simp only [decodeTableWord, h]

/-- Settles O46: the three cells at PC hold the bytes of the word, and both request flags are clear. -/
theorem placedWordIsFetched : Obligations.PlacedWordIsFetched := by
  intro s nbits w hram hplain
  let t := s.withFetchWord nbits w
  have hcell : ∀ k (hk : k < 3), t.ramByte (s.pc + BitVec.ofNat 16 k) = (tableWordBytes nbits w)[k]'hk := fun k hk =>
    read_layBytes hram (by decide : 3 ≤ 65536) (bs := tableWordBytes nbits w) hk
  have hfirst : t.ramByte s.pc = (tableWordBytes nbits w)[0]'(by decide : 0 < 3) := by simpa using hcell 0 (by decide)
  have hcells : [t.ramByte s.pc, t.ramByte (s.pc + BitVec.ofNat 16 1), t.ramByte (s.pc + BitVec.ofNat 16 2)]
      = tableWordBytes nbits w := by
    rw [hfirst, hcell 1 (by decide), hcell 2 (by decide)]
    rfl
  obtain ⟨rest, hdecode⟩ := decode_of_fetchInstr (s := t) hplain
  have hword : decode (tableWordBytes nbits w) = .ok ((fetchInstr t).instr, rest) := by
    rw [← hcells]
    exact hdecode
  exact ⟨(decodeTableWord_of_decode hword).symm, rfl⟩

end Sys2Proof.Machine
end

section
/-! PROOFS. What the two accesses do at an address that a hook covers (R33, R34, R36, R37), and what answers an I/O
address: R48's map, and the registers of each chip (R172 to R174, R178, R184, R186). -/

namespace Sys2Proof.Machine

open Sys2Proof.Spec

/-! ### A hooked address is delegated -/

theorem State.memRead_hooked {s : State} {a : Word} {h : Device} {off : Nat}
    (hat : hookAt s.hooks.readers a.toNat = some (h, off)) :
    s.memRead a = ((hookRead s h off a.toNat).1, s.withDev (hookRead s h off a.toNat).2) := by
  simp only [State.memRead, State.busRead, hat]

theorem State.memWrite_hooked {s : State} {a : Word} {h : Device} {off : Nat} (b : Byte)
    (hat : hookAt s.hooks.writers a.toNat = some (h, off)) :
    s.memWrite a b = (s.withRam (hookWrite s h off a.toNat b).1).withDev (hookWrite s h off a.toNat b).2 := by
  simp only [State.memWrite, State.busWrite, hat]

/-- R37: a write changes no byte of RAM but the addressed one. -/
theorem State.memWrite_ramSameBut (s : State) (a : Word) (b : Byte) : RamSameBut [a] s (s.memWrite a b) :=
  fun _ hc => s.memWrite_ramByte_other b (List.ne_of_not_mem_cons hc)

/-! ### External buffers (R34) -/

theorem bufferRead_bufferWrite_same {bufs : List (List Byte)} {id off : Nat} (b : Byte) (hid : id < bufs.length)
    (hoff : off < (bufs.getD id []).length) : bufferRead (bufferWrite bufs id off b) id off = b := by
  simp_all [bufferRead, bufferWrite]

theorem bufferRead_bufferWrite_other (bufs : List (List Byte)) {id off id' off' : Nat} (b : Byte)
    (h : (id', off') ≠ (id, off)) :
    bufferRead (bufferWrite bufs id off b) id' off' = bufferRead bufs id' off' := by
  by_cases hid : id' = id
  · have hoff : off ≠ off' := fun e => h (by rw [hid, e])
    by_cases hlt : id < bufs.length <;> simp [bufferRead, bufferWrite, hid, hlt, List.getElem?_set_ne hoff]
  · simp [bufferRead, bufferWrite, List.getElem?_set_ne (Ne.symm hid)]

theorem bufferWrite_stored (d : Devices) (id off : Nat) (b : Byte) :
    BufferStored d { d with buffers := bufferWrite d.buffers id off b } id off b :=
  ⟨bufferRead_bufferWrite_same b, fun _ _ => bufferRead_bufferWrite_other d.buffers b, rfl⟩

/-! ### R48's map -/

theorem ioDecoded : IoDecoded := by
  refine ⟨fun k r => ?_, fun k r => ?_, fun k => ?_, fun k r => ?_, fun k r => ?_, fun k hk => ?_⟩ <;>
    unfold ioRegister
  · rw [if_pos (by omega)]
    exact congrArg IoRegister.vic (Fin.ext (by simp only; omega))
  · rw [if_neg (by omega), if_pos (by omega)]
    exact congrArg IoRegister.sid (Fin.ext (by simp only; omega))
  · rw [if_neg (by omega), if_neg (by omega), if_pos (by omega)]
    exact congrArg IoRegister.colour (Fin.ext (by simp only; omega))
  · rw [if_neg (by omega), if_neg (by omega), if_neg (by omega), if_pos (by omega)]
    exact congrArg IoRegister.cia1 (Fin.ext (by simp only; omega))
  · rw [if_neg (by omega), if_neg (by omega), if_neg (by omega), if_neg (by omega), if_pos (by omega)]
    exact congrArg IoRegister.cia2 (Fin.ext (by simp only; omega))
  · rw [if_neg (by omega), if_neg (by omega), if_neg (by omega), if_neg (by omega), if_neg (by omega)]

/-! ### Reads with unspecified bits -/

theorem toNat_and_0F (b : Byte) : (b &&& 0x0F).toNat = b.toNat % 16 := by
  rw [BitVec.toNat_and]
  exact Nat.and_two_pow_sub_one_eq_mod b.toNat 4

section
variable (d : Devices) (mask value : Byte)

/-- In the bits of the mask, a read returns the specified value. -/
theorem maskedRead_and : (maskedRead d mask value).1 &&& mask = value &&& mask := by
  unfold maskedRead
  split
  · rfl
  · ext i hi
    cases hm : mask[i] <;> simp [hm]

theorem maskedRead_getLsbD {bit : Nat} (h : mask.getLsbD bit = true) :
    (maskedRead d mask value).1.getLsbD bit = value.getLsbD bit := by
  simpa [h] using congrArg (fun b => b.getLsbD bit) (maskedRead_and d mask value)

/-- A read draws free values, and changes nothing else. -/
theorem maskedRead_snd :
    (maskedRead d mask value).2 = { d with freeDraws := (maskedRead d mask value).2.freeDraws } := by
  unfold maskedRead
  split <;> rfl

theorem maskedRead_low : (maskedRead d 0x0F value).1.toNat % 16 = value.toNat % 16 := by
  rw [← toNat_and_0F, ← toNat_and_0F, maskedRead_and]

end

/-! ### Device registers -/

/-- R48: colour RAM keeps and returns 4 bits per cell. -/
theorem colourCells (inp : Inputs) (d : Devices) (b : Byte) : ColourCells inp d b := by
  intro k
  have hread (e : Devices) : (registerRead inp e (.colour k)).1.toNat % 16 = (e.colourRam.read k).toNat % 16 :=
    maskedRead_low e (e.colourRam.read k)
  have hsame (hwf : d.colourRam.wf 1024 = true) :
      ((registerWrite d (.colour k) b).colourRam.read k).toNat = b.toNat % 16 := by
    rw [← toNat_and_0F]
    exact congrArg BitVec.toNat (Mem.read_write_same (b &&& 0x0F) hwf)
  refine ⟨fun hwf => ⟨hsame hwf, ?_⟩, fun j hj => ?_, rfl, hread d⟩
  · rw [hread, hsame hwf, Nat.mod_mod]
  · exact Mem.read_write_other _ _ fun e => hj (Fin.ext e.symm)

/-- R186: of all device registers, reading a CIA's interrupt control alone changes a chip: it clears the latch. -/
theorem registerRead_snd (inp : Inputs) (d : Devices) (r : IoRegister) :
    (registerRead inp d r).2 = { d with
      freeDraws := (registerRead inp d r).2.freeDraws
      cia1 := if r = .cia1 0xD then { d.cia1 with latch := 0 } else d.cia1
      cia2 := if r = .cia2 0xD then { d.cia2 with latch := 0 } else d.cia2 } := by
  cases r with
  | vic r | colour k => simpa [registerRead] using maskedRead_snd d _ _
  | sid r | expansion => simp [registerRead, drawByte]
  | cia1 r =>
    simpa [registerRead, ciaAfterRead, Fin.ext_iff] using maskedRead_snd { d with cia1 := ciaAfterRead d.cia1 r } _ _
  | cia2 r =>
    simpa [registerRead, ciaAfterRead, Fin.ext_iff] using maskedRead_snd { d with cia2 := ciaAfterRead d.cia2 r } _ _

theorem registersAnswer (inp : Inputs) (d : Devices) (b : Byte) : RegistersAnswer inp d b :=
  ⟨fun _ _ => maskedRead_getLsbD _ _ _, fun _ _ => maskedRead_getLsbD _ _ _, fun _ _ => maskedRead_getLsbD _ _ _,
    registerRead_snd inp d, fun _ => rfl, fun _ => rfl, fun _ => rfl, fun _ => rfl, rfl⟩

/-! ### The registers of the VIC-II (R172, R173) -/

section
variable (v : Vic) (b : Byte) {r q : Nat}

theorem vicReadValue_raster : (vicReadValue v 0x12).toNat = v.rasterLine % 256 := by simp [vicReadValue]

theorem vicReadValue_control_bit7 : (vicReadValue v 0x11).getLsbD 7 = true ↔ v.rasterLine / 256 % 2 = 1 := by
  have hbit : (BitVec.ofNat 9 v.rasterLine).getLsbD 8 = decide (v.rasterLine / 256 % 2 = 1) := by
    rw [BitVec.getLsbD_ofNat, Nat.testBit_eq_decide_div_mod_eq]
    rfl
  simp only [vicReadValue, hbit]
  by_cases h : v.rasterLine / 256 % 2 = 1 <;> simp [h]

theorem vicReadValue_control_low {i : Nat} (hi : i < 7) :
    (vicReadValue v 0x11).getLsbD i = (v.regs.read 0x11).getLsbD i := by
  obtain ⟨hlow, hhigh⟩ :=
    (by decide : ∀ i < 7, (0x7F : Byte).getLsbD i = true ∧ (0x80 : Byte).getLsbD i = false) i hi
  simp only [vicReadValue, if_pos, BitVec.getLsbD_or, BitVec.getLsbD_and, hlow, Bool.and_true]
  split
  · rw [hhigh, Bool.false_or]
  · simp

theorem vicReadValue_enable : vicReadValue v 0x1A = v.enable.setWidth 8 := by simp [vicReadValue]

theorem vicReadValue_unused (h : 0x2F ≤ r) : vicReadValue v r = 0xFF := by
  rw [vicReadValue, if_neg (by omega), if_neg (by omega), if_neg (by omega), if_neg (by omega), if_pos h]

theorem vicReadValue_stored (h : r < 0x2F) (hr : r ∉ [0x11, 0x12, 0x19, 0x1A]) :
    vicReadValue v r = v.regs.read r := by
  simp only [List.mem_cons, List.not_mem_nil, not_or] at hr
  rw [vicReadValue, if_neg (by omega), if_neg (by omega), if_neg (by omega), if_neg (by omega), if_neg (by omega)]

theorem vicWriteIgnored_iff : vicWriteIgnored r = true ↔ r ∈ [0x13, 0x14, 0x1E, 0x1F] ∨ 0x2F ≤ r := by
  simp [vicWriteIgnored, or_assoc]

theorem vicWrite_regs_same (hwf : v.regs.wf 64 = true) (hr : r < 0x2F)
    (hstored : r ∉ [0x13, 0x14, 0x19, 0x1E, 0x1F]) : (vicWrite v r b).regs.read r = b := by
  have hnot : ¬ vicWriteIgnored r = true := fun h => by
    rcases vicWriteIgnored_iff.mp h with h | h
    · simp_all
    · omega
  rw [vicWrite, if_neg hnot, if_neg (by rintro rfl; simp at hstored)]
  exact Mem.read_write_same b hwf

theorem vicWrite_regs_other (h : q ≠ r) : (vicWrite v r b).regs.read q = v.regs.read q := by
  unfold vicWrite
  split
  · rfl
  · split
    · rfl
    · exact Mem.read_write_other _ b h.symm

theorem vicWrite_enable_same : (vicWrite v 0x1A b).enable = b.setWidth 4 := rfl

theorem vicWrite_enable_other (h : r ≠ 0x1A) : (vicWrite v r b).enable = v.enable := by
  unfold vicWrite
  split
  · rfl
  · split <;> rfl

/-- R172: a stored register reads back as written in its specified bits, bit 7 of $D011 apart. -/
theorem vicReadValue_vicWrite_same (hwf : v.regs.wf 64 = true) (hr : r < 0x2F)
    (hstored : r ∉ [0x12, 0x13, 0x14, 0x19, 0x1E, 0x1F]) {i : Nat} (hmask : (vicReadMask r).getLsbD i = true)
    (hraster : r = 0x11 → i ≠ 7) : (vicReadValue (vicWrite v r b) r).getLsbD i = b.getLsbD i := by
  have hread : (vicWrite v r b).regs.read r = b :=
    vicWrite_regs_same v b hwf hr (List.not_mem_of_not_mem_cons hstored)
  by_cases h11 : r = 0x11
  · subst h11
    have hi : i < 7 := Nat.lt_of_le_of_ne (Nat.le_of_lt_succ (BitVec.lt_of_getLsbD hmask)) (hraster rfl)
    rw [vicReadValue_control_low _ hi, hread]
  · by_cases h1A : r = 0x1A
    · subst h1A
      have hi : i < 8 := BitVec.lt_of_getLsbD hmask
      have hi4 : i < 4 := (by decide : ∀ i < 8, (vicReadMask 0x1A).getLsbD i = true → i < 4) i hi hmask
      simp [vicReadValue_enable, vicWrite_enable_same, hi, hi4]
    · rw [vicReadValue_stored _ hr (by simp_all), hread]

/-- R172: a write to a register changes what no other register reads, $D019 apart. -/
theorem vicReadValue_vicWrite_other (hq : q ≠ r) (h19 : q ≠ 0x19) :
    vicReadValue (vicWrite v r b) q = vicReadValue v q := by
  by_cases h1A : q = 0x1A
  · subst h1A
    rw [vicReadValue_enable, vicReadValue_enable, vicWrite_enable_other v b hq.symm]
  · simp only [vicReadValue, (vicWrite_position v r b).1, vicWrite_regs_other v b hq, if_neg h19, if_neg h1A]

theorem vicReadMask_colour (h : 0x20 ≤ r) (h' : r ≤ 0x2E) : vicReadMask r = 0x0F := by
  rw [vicReadMask, if_neg (by omega), if_neg (by omega), if_neg (by omega), if_neg (by omega), if_neg (by omega),
    if_pos ⟨h, h'⟩]

theorem vicReadMask_unused (h : 0x2F ≤ r) : vicReadMask r = 0xFF := by
  rw [vicReadMask, if_neg (by omega), if_neg (by omega), if_neg (by omega), if_neg (by omega), if_neg (by omega),
    if_neg (by omega)]

theorem vicRegisters : VicRegisters v b := by
  refine ⟨vicReadValue_raster v, vicReadValue_control_bit7 v, fun i => vicReadValue_control_low v,
    fun hwf r hr hstored i hmask hraster => vicReadValue_vicWrite_same v b hwf hr hstored hmask hraster,
    fun r q => vicReadValue_vicWrite_other v b, ?_, fun r => vicWrite_enable_other v b,
    fun r hr => ⟨vicReadValue_unused v hr, vicReadMask_unused hr, if_pos (vicWriteIgnored_iff.mpr (.inr hr))⟩,
    by decide, fun r => vicReadMask_colour, by decide, by decide⟩
  rw [vicWrite_enable_same, BitVec.toNat_setWidth]

end

/-! ### The statement -/

/-- Settles O47: the clauses about one access, R48's map, and the answers of the devices. -/
theorem accessesFollowHooks : Obligations.AccessesFollowHooks := by
  refine ⟨fun s a b => ⟨State.memRead_plain, fun hplain hwf => ⟨State.memWrite_ramByte_same b hplain hwf, ?_⟩,
    s.memWrite_ramSameBut a b, fun r off => State.memRead_hooked, fun r off => State.memWrite_hooked b,
    fun id base off => State.memRead_hooked, fun id base off hat => ?_⟩, ioDecoded,
    fun inp d b => ⟨colourCells inp d b, registersAnswer inp d b, vicRegisters d.vic b⟩⟩
  · rw [State.memWrite_plain b hplain]
    rfl
  · rw [State.memWrite_hooked b hat]
    exact ⟨rfl, bufferWrite_stored s.dev id (base + off) b⟩

end Sys2Proof.Machine
end

section
/-! PROOFS. Bank selection (R49): which window of the C64's hook tables covers an address, what the port cells select,
and what an access to each window then does. -/

namespace Sys2Proof.Machine

/-! ### The windows of the C64's hook tables (R48) -/

section
variable {a : Nat}

theorem hookAt_c64_basic (h : 0xA000 ≤ a) (h' : a < 0xC000) :
    hookAt c64Hooks.readers a = some (.basicWindow, a - 0xA000) := if_pos ⟨h, h'⟩

theorem hookAt_c64_io (h : 0xD000 ≤ a) (h' : a < 0xE000) :
    hookAt c64Hooks.readers a = some (.ioWindow, a - 0xD000) := by
  simp only [c64Hooks, hookAt]
  rw [if_neg (by omega), if_pos (by omega)]

theorem hookAt_c64_kernal (h : 0xE000 ≤ a) (h' : a < 0x10000) :
    hookAt c64Hooks.readers a = some (.kernalWindow, a - 0xE000) := by
  simp only [c64Hooks, hookAt]
  rw [if_neg (by omega), if_neg (by omega), if_pos (by omega)]

theorem hookAt_c64_ram (h : a < 0xA000 ∨ (0xC000 ≤ a ∧ a < 0xD000)) : hookAt c64Hooks.readers a = none := by
  simp only [c64Hooks, hookAt]
  rw [if_neg (by omega), if_neg (by omega), if_neg (by omega)]

theorem hookAt_c64_io_writer (h : 0xD000 ≤ a) (h' : a < 0xE000) :
    hookAt c64Hooks.writers a = some (.ioWindow, a - 0xD000) := if_pos ⟨h, h'⟩

theorem hookAt_c64_ram_writer (h : a < 0xD000 ∨ 0xE000 ≤ a) : hookAt c64Hooks.writers a = none := by
  simp only [c64Hooks, hookAt]
  rw [if_neg (by omega)]

end

/-! ### What the port selects -/

/-- R49: a bit of the configuration is the port's where it is an output, and 1 where it is an input. -/
theorem bankBits_getLsbD (ram : Mem) {k : Nat} (hk : k < 3) : (bankBits ram).getLsbD k
    = (((ram.read 1).getLsbD k && (ram.read 0).getLsbD k) || !(ram.read 0).getLsbD k) := by
  obtain ⟨hmask, hbit⟩ := (by decide : ∀ k < 3, (0x07 : Byte).getLsbD k = true ∧ k < 8) k hk
  simp only [bankBits, BitVec.getLsbD_and, BitVec.getLsbD_or, BitVec.getLsbD_not, hmask, hbit, decide_true,
    Bool.true_and, Bool.and_true]

theorem ioViewOf_eq (b : Bank) :
    ioViewOf b = if b.loram || b.hiram then (if b.charen then .io else .chargen) else .ram := by
  obtain ⟨loram, hiram, charen⟩ := b
  cases loram <;> cases hiram <;> rfl

theorem ioViewOf_ram {b : Bank} (hl : b.loram = false) (hh : b.hiram = false) : ioViewOf b = .ram := by
  simp [ioViewOf_eq, hl, hh]

theorem ioViewOf_chargen {b : Bank} (h : (b.loram || b.hiram) = true) (hc : b.charen = false) :
    ioViewOf b = .chargen := by
  simp [ioViewOf_eq, h, hc]

theorem ioViewOf_io {b : Bank} (h : (b.loram || b.hiram) = true) (hc : b.charen = true) : ioViewOf b = .io := by
  simp [ioViewOf_eq, h, hc]

theorem ioViewOf_ne_io {b : Bank} (h : ((b.loram || b.hiram) && b.charen) = false) : ioViewOf b ≠ .io := by
  rw [ioViewOf_eq]
  cases hc : b.charen with
  | false => split <;> nofun
  | true =>
    rw [hc, Bool.and_true] at h
    rw [h]
    nofun

/-! ### What an access to a window does -/

section
variable {s : State} {a : Word} (hhooks : s.hooks = c64Hooks)
include hhooks

theorem memRead_basicWindow (h : 0xA000 ≤ a.toNat) (h' : a.toNat < 0xC000) :
    s.memRead a = if (bankOf s.ram).loram && (bankOf s.ram).hiram then
      (s.cfg.roms.basic.getD (a.toNat - 0xA000) 0, s) else (s.ramByte a, s) := by
  rw [State.memRead_hooked (hhooks ▸ hookAt_c64_basic h h'), hookRead]
  split <;> rfl

theorem memRead_kernalWindow (h : 0xE000 ≤ a.toNat) :
    s.memRead a = if (bankOf s.ram).hiram then (s.cfg.roms.kernal.getD (a.toNat - 0xE000) 0, s)
      else (s.ramByte a, s) := by
  rw [State.memRead_hooked (hhooks ▸ hookAt_c64_kernal h a.isLt), hookRead]
  split <;> rfl

variable (h : 0xD000 ≤ a.toNat) (h' : a.toNat < 0xE000)
include h h'

theorem memRead_ioWindow_ram (hview : ioViewOf (bankOf s.ram) = .ram) : s.memRead a = (s.ramByte a, s) := by
  rw [State.memRead_hooked (hhooks ▸ hookAt_c64_io h h'), hookRead, hview]
  rfl

theorem memRead_ioWindow_chargen (hview : ioViewOf (bankOf s.ram) = .chargen) :
    s.memRead a = (s.cfg.roms.chargen.getD (a.toNat - 0xD000) 0, s) := by
  rw [State.memRead_hooked (hhooks ▸ hookAt_c64_io h h'), hookRead, hview]
  rfl

theorem memRead_ioWindow_io (hview : ioViewOf (bankOf s.ram) = .io) :
    s.memRead a = ((registerRead s.inputs s.dev (ioRegister a.toNat)).1,
      s.withDev (registerRead s.inputs s.dev (ioRegister a.toNat)).2) := by
  rw [State.memRead_hooked (hhooks ▸ hookAt_c64_io h h'), hookRead, hview]

theorem memWrite_ioWindow_io (hview : ioViewOf (bankOf s.ram) = .io) (b : Byte) :
    s.memWrite a b = s.withDev (registerWrite s.dev (ioRegister a.toNat) b) := by
  rw [State.memWrite_hooked b (hhooks ▸ hookAt_c64_io_writer h h'), hookWrite, hview]
  rfl

/-- R49: while I/O is not selected, a write to the window reaches the RAM underneath. -/
theorem memWrite_ioWindow_ram (hview : ioViewOf (bankOf s.ram) ≠ .io) (b : Byte) :
    s.memWrite a b = s.withRam (s.ram.write a.toNat b) := by
  rw [State.memWrite_hooked b (hhooks ▸ hookAt_c64_io_writer h h'), hookWrite]
  cases hv : ioViewOf (bankOf s.ram) with
  | io => exact absurd hv hview
  | ram | chargen => rfl

end

/-- A read that returns a byte of a ROM image of the right length returns the image's byte. -/
theorem memRead_rom {s : State} {a : Word} {image : List Byte} {off length : Nat} (hoff : off < length)
    (h : s.memRead a = (image.getD off 0, s)) :
    (s.memRead a).2 = s ∧ (image.length = length → image[off]? = some (s.memRead a).1) := by
  rw [h]
  refine ⟨rfl, fun hlength => ?_⟩
  have hin : off < image.length := by omega
  simp [hin]

/-! ### The statement -/

/-- Settles O48: the port cells give the bank, and the bank what each window reads and writes. -/
theorem bankSelection : Obligations.BankSelection := by
  intro s a hhooks port readsRam readsRom
  have hbank : bankOf s.ram = ⟨port 0, port 1, port 2⟩ := by
    rw [bankOf, bankBits_getLsbD _ (by decide), bankBits_getLsbD _ (by decide), bankBits_getLsbD _ (by decide)]
    rfl
  have hend : a.toNat < 0x10000 := a.isLt
  refine ⟨fun h h' => ?_, fun h => ?_, fun h h' hl hh => ?_, fun h h' hlh hc => ?_, fun h h' hlh hc => ?_,
    fun h h' hnot => ?_, fun h => ?_, fun h => ?_⟩
  · have hread := memRead_basicWindow hhooks h h'
    rw [hbank] at hread
    split <;> rename_i hport
    · exact memRead_rom (by omega) (hread.trans (if_pos hport))
    · exact hread.trans (if_neg hport)
  · have hread := memRead_kernalWindow hhooks h
    rw [hbank] at hread
    split <;> rename_i hport
    · exact memRead_rom (by omega) (hread.trans (if_pos hport))
    · exact hread.trans (if_neg hport)
  · exact memRead_ioWindow_ram hhooks h h' (hbank ▸ ioViewOf_ram hl hh)
  · exact memRead_rom (by omega) (memRead_ioWindow_chargen hhooks h h' (hbank ▸ ioViewOf_chargen hlh hc))
  · have hview : ioViewOf (bankOf s.ram) = .io := hbank ▸ ioViewOf_io hlh hc
    exact ⟨memRead_ioWindow_io hhooks h h' hview, memWrite_ioWindow_io hhooks h h' hview⟩
  · exact memWrite_ioWindow_ram hhooks h h' (hbank ▸ ioViewOf_ne_io hnot)
  · exact State.memRead_plain (hhooks ▸ hookAt_c64_ram h)
  · exact fun b => State.memWrite_plain b (hhooks ▸ hookAt_c64_ram_writer h)

end Sys2Proof.Machine
end

section
/-! PROOFS. The decoder as a function of its bytes (R57, R64), and the opcode table as the map from opcodes to
instructions (R61, R62): it lists R61's map, and a row assembles to an instruction of its form, whatever the operand bytes
are. -/

namespace Sys2Proof

open Spec

/-! ### The decoder: an opcode and as many operand bytes as it asks for -/

/-- R57, R60, R64: a list decodes exactly when it is an opcode, the operand bytes of the opcode's length, and the rest. -/
theorem decode_eq_ok_iff {bytes rest : List Byte} {i : Instr} : decode bytes = .ok (i, rest) ↔
    ∃ op args, bytes = op :: (args ++ rest) ∧ args.length + 1 = opLength op
      ∧ instrOf op (args.getD 0 0) (args.getD 1 0) = i := by
  constructor
  · intro h
    unfold decode at h
    split at h
    · cases h
    · rename_i op tail
      split at h <;> rename_i hlength <;> cases h
      · exact ⟨op, [], rfl, hlength.symm, rfl⟩
      · exact ⟨op, [_], rfl, hlength.symm, rfl⟩
      · exact ⟨op, [_, _], rfl, hlength.symm, rfl⟩
  · rintro ⟨op, args, rfl, hlength, rfl⟩
    match args, hlength with
    | [], hlength | [_], hlength | [_, _], hlength => simp [decode, ← hlength]
    | _ :: _ :: _ :: _, hlength =>
      have hshort := Machine.opLength_cases op
      simp only [List.length_cons] at hlength
      omega

/-- Up to two operand bytes are the first of the pair that the decoder makes the instruction from. -/
theorem isPrefix_operand_pair {args : List Byte} (h : args.length ≤ 2) : args <+: [args.getD 0 0, args.getD 1 0] := by
  match args, h with
  | [], _ => exact List.nil_prefix
  | [b1], _ => exact ⟨[0], rfl⟩
  | [b1, b2], _ => exact List.prefix_rfl

/-! ### The row of an opcode -/

theorem rowOfOpcode_sound {op : Byte} {r : OpRow} (h : rowOfOpcode op = some r) : r ∈ opcodeTable ∧ r.op = op :=
  ⟨List.mem_of_find?_eq_some h, by simpa using List.find?_some h⟩

theorem opLength_of_row {op : Byte} {r : OpRow} (h : rowOfOpcode op = some r) : opLength op = modeLength r.mode := by
  simp [opLength, h, row_length r (rowOfOpcode_sound h).1]

theorem opLength_of_no_row {op : Byte} (h : rowOfOpcode op = none) : opLength op = 1 := by simp [opLength, h]

/-! ### The table and R62's list against R61's map -/

/-- The 256 opcode values, in the order of the map. -/
def allBytes : List Byte := (List.range 256).map (BitVec.ofNat 8)

theorem mem_allBytes (b : Byte) : b ∈ allBytes :=
  List.mem_map.mpr ⟨b.toNat, List.mem_range.mpr b.isLt, by simp⟩

/-- R61: the table's rows are the map's defined cells, in order. -/
theorem definedCells_eq :
    allBytes.filterMap (fun op => (opcodeCell op).map (op, ·)) = opcodeTable.map fun r => (r.op, r.mn, r.mode) := by
  decide +kernel

/-- R62: the undefined opcodes are the cells marked `--`, in order. -/
theorem undefinedCells_eq : allBytes.filter (fun op => opcodeCell op = none) = undefinedOpcodes := by decide +kernel

theorem opcodeCell_eq_some_iff {op : Byte} {c : Mnemonic × Mode} :
    opcodeCell op = some c ↔ ∃ r ∈ opcodeTable, (r.op, r.mn, r.mode) = (op, c) := by
  rw [← List.mem_map, ← definedCells_eq]
  simp [mem_allBytes]

theorem opcodeCell_eq_none_iff {op : Byte} : opcodeCell op = none ↔ op ∈ undefinedOpcodes := by
  simp [← undefinedCells_eq, mem_allBytes]

/-- R61: the table has the row of the map's cell, and none where the cell is marked `--`. -/
theorem opcodeCell_eq (op : Byte) : opcodeCell op = (rowOfOpcode op).map fun r => (r.mn, r.mode) := by
  cases hrow : rowOfOpcode op with
  | some r =>
    obtain ⟨hmem, rfl⟩ := rowOfOpcode_sound hrow
    exact opcodeCell_eq_some_iff.mpr ⟨r, hmem, rfl⟩
  | none =>
    refine Option.eq_none_iff_forall_ne_some.mpr fun c hc => ?_
    obtain ⟨r, hmem, heq⟩ := opcodeCell_eq_some_iff.mp hc
    cases heq
    exact absurd (row_of_its_opcode r hmem) (by simp [hrow])

/-- R62: the bytes without a row are the undefined ones. -/
theorem rowOfOpcode_eq_none_iff {op : Byte} : rowOfOpcode op = none ↔ op ∈ undefinedOpcodes := by
  rw [← opcodeCell_eq_none_iff, opcodeCell_eq, Option.map_eq_none_iff]

/-! ### The row of a well-formed instruction -/

/-- The undefined instruction is well formed with the opcodes of R62's list only. -/
theorem Instr.wf_undefined_iff {op : Byte} : (Instr.undefined op).wf = true ↔ op ∈ undefinedOpcodes :=
  List.contains_iff_mem

/-- R61, R62: a well-formed instruction is an undefined opcode without a row, or its opcode has the row of its mode, which
assembles it from its operand bytes. -/
theorem Instr.undefined_or_row_of_wf {i : Instr} (h : i.wf = true) :
    (∃ op, i = .undefined op ∧ rowOfOpcode op = none) ∨ ∃ r, rowOfOpcode i.opcode = some r ∧ r.mode = i.mode
      ∧ assemble r.mn r.mode (i.operandBytes.getD 0 0) (i.operandBytes.getD 1 0) = some i := by
  by_cases hundefined : ∃ op, i = .undefined op
  · obtain ⟨op, rfl⟩ := hundefined
    exact .inl ⟨op, rfl, rowOfOpcode_eq_none_iff.mpr (Instr.wf_undefined_iff.mp h)⟩
  · have hu : ∀ op, i ≠ .undefined op := not_exists.mp hundefined
    obtain ⟨r, hrow⟩ := Instr.row_of_wf h hu
    obtain ⟨hmem, hn, hm⟩ := Instr.row_sound hrow
    refine .inr ⟨r, ?_, hm, ?_⟩
    · rw [Instr.opcode_of_row hrow hu]
      exact row_of_its_opcode r hmem
    · rw [hn, hm]
      exact Instr.assemble_eq i hu

/-! ### What a row assembles to -/

/-- A row's form is a form of its mnemonic, whatever the operand bytes are (R61). -/
theorem assemble_of_row {r : OpRow} (h : r ∈ opcodeTable) (b1 b2 : Byte) :
    ∃ i, assemble r.mn r.mode b1 b2 = some i ∧ i.mnemonic = r.mn ∧ i.mode = r.mode ∧ i.wf = true := by
  have htable : opcodeTable.map (fun r => (assemble r.mn r.mode b1 b2).map fun i => (i.mnemonic, i.mode, i.wf))
      = opcodeTable.map (fun r => some (r.mn, r.mode, true)) := rfl
  simpa using List.map_inj_left.mp htable r h

/-- R62: no row of the table is of the undefined mnemonic. -/
theorem row_mnemonic_ne_undefined : ∀ r ∈ opcodeTable, r.mn ≠ .undefined := by decide +kernel

theorem memForm_bytes_prefix {mode : Mode} {b1 b2 : Byte} {m : MemOperand} (h : memForm mode b1 b2 = some m) :
    m.bytes <+: [b1, b2] := by
  cases mode <;> cases h <;> simp [MemOperand.bytes, wordBytes]

theorem readForm_bytes_prefix {mode : Mode} {b1 b2 : Byte} {o : ReadOperand} (h : readForm mode b1 b2 = some o) :
    o.bytes <+: [b1, b2] := by
  unfold readForm at h
  split at h
  · cases h
    exact ⟨[b2], rfl⟩
  · obtain ⟨m, hm, rfl⟩ := Option.map_eq_some_iff.mp h
    exact memForm_bytes_prefix hm

theorem shiftForm_bytes_prefix {mode : Mode} {b1 b2 : Byte} {o : ShiftOperand} (h : shiftForm mode b1 b2 = some o) :
    o.bytes <+: [b1, b2] := by
  unfold shiftForm at h
  split at h
  · cases h
    exact List.nil_prefix
  · obtain ⟨m, hm, rfl⟩ := Option.map_eq_some_iff.mp h
    exact memForm_bytes_prefix hm

theorem jumpForm_bytes_prefix {mode : Mode} {b1 b2 : Byte} {j : JumpOperand} (h : jumpForm mode b1 b2 = some j) :
    j.bytes <+: [b1, b2] := by
  cases mode <;> cases h <;> simp [JumpOperand.bytes, wordBytes]

/-- The operand bytes of an assembled instruction are the first of the bytes it is assembled from. -/
theorem assemble_operandBytes_prefix {mn : Mnemonic} {mode : Mode} {b1 b2 : Byte} {i : Instr}
    (h : assemble mn mode b1 b2 = some i) : i.operandBytes <+: [b1, b2] := by
  cases mn
  case undefined => cases h
  case lda | ldx | ldy | adc | sbc | cmp | cpx | cpy | and | ora | eor | bit =>
    obtain ⟨o, ho, rfl⟩ := Option.map_eq_some_iff.mp h
    exact readForm_bytes_prefix ho
  case sta | stx | sty | inc | dec =>
    obtain ⟨m, hm, rfl⟩ := Option.map_eq_some_iff.mp h
    exact memForm_bytes_prefix hm
  case asl | lsr | rol | ror =>
    obtain ⟨o, ho, rfl⟩ := Option.map_eq_some_iff.mp h
    exact shiftForm_bytes_prefix ho
  case jmp =>
    obtain ⟨j, hj, rfl⟩ := Option.map_eq_some_iff.mp h
    exact jumpForm_bytes_prefix hj
  case jsr =>
    cases h
    simp [Instr.operandBytes, wordBytes]
  case bpl | bmi | bvc | bvs | bcc | bcs | bne | beq =>
    cases h
    exact ⟨[b2], rfl⟩
  all_goals
    cases h
    exact List.nil_prefix

/-! ### The instruction of an opcode -/

theorem instrOf_of_no_row {op : Byte} (h : rowOfOpcode op = none) (b1 b2 : Byte) : instrOf op b1 b2 = .undefined op := by
  simp [instrOf, h]

/-- R61: an opcode with a row makes a well-formed instruction of the row's mnemonic and mode. -/
theorem instrOf_of_row {op : Byte} {r : OpRow} (h : rowOfOpcode op = some r) (b1 b2 : Byte) :
    (instrOf op b1 b2).mnemonic = r.mn ∧ (instrOf op b1 b2).mode = r.mode ∧ (instrOf op b1 b2).wf = true := by
  obtain ⟨i, hi, hform⟩ := assemble_of_row (rowOfOpcode_sound h).1 b1 b2
  simpa [instrOf, h, hi] using hform

theorem instrOf_ne_undefined {op : Byte} {r : OpRow} (h : rowOfOpcode op = some r) (b1 b2 u : Byte) :
    instrOf op b1 b2 ≠ .undefined u := by
  intro hu
  obtain ⟨hn, -⟩ := instrOf_of_row h b1 b2
  rw [hu] at hn
  exact row_mnemonic_ne_undefined r (rowOfOpcode_sound h).1 hn.symm

/-- R65: the instruction of an opcode has that opcode. -/
theorem opcode_instrOf (op b1 b2 : Byte) : (instrOf op b1 b2).opcode = op := by
  cases hrow : rowOfOpcode op with
  | none => rw [instrOf_of_no_row hrow]; rfl
  | some r =>
    obtain ⟨hn, hm, -⟩ := instrOf_of_row hrow b1 b2
    obtain ⟨hmem, hop⟩ := rowOfOpcode_sound hrow
    rw [Instr.opcode_of_row (Instr.row_eq hmem hn hm) (instrOf_ne_undefined hrow b1 b2), hop]

theorem wf_instrOf (op b1 b2 : Byte) : (instrOf op b1 b2).wf = true := by
  cases hrow : rowOfOpcode op with
  | none =>
    rw [instrOf_of_no_row hrow]
    exact Instr.wf_undefined_iff.mpr (rowOfOpcode_eq_none_iff.mp hrow)
  | some r =>
    obtain ⟨-, -, hwf⟩ := instrOf_of_row hrow b1 b2
    exact hwf

theorem operandBytes_instrOf_prefix (op b1 b2 : Byte) : (instrOf op b1 b2).operandBytes <+: [b1, b2] := by
  cases hrow : rowOfOpcode op with
  | none =>
    rw [instrOf_of_no_row hrow]
    exact List.nil_prefix
  | some r =>
    obtain ⟨i, hi, -⟩ := assemble_of_row (rowOfOpcode_sound hrow).1 b1 b2
    simpa [instrOf, hrow, hi] using assemble_operandBytes_prefix hi

/-! ### The length of an instruction (R57) -/

/-- R57: every instruction is encoded in as many bytes as its mode says. -/
theorem encode_length (i : Instr) : (encode i).length = modeLength i.mode := by
  cases i
  case lda o | ldx o | ldy o | adc o | sbc o | cmp o | cpx o | cpy o | and o | ora o | eor o | bit o =>
    exact Laws.readOperand_bytes_length o
  case sta m | stx m | sty m | inc m | dec m => exact Laws.memOperand_bytes_length m
  case asl o | lsr o | rol o | ror o => exact Laws.shiftOperand_bytes_length o
  case jmp j => exact Laws.jumpOperand_bytes_length j
  all_goals rfl

/-- R57, R64: the opcode alone fixes the length of a well-formed instruction. -/
theorem encode_length_of_wf {i : Instr} (h : i.wf = true) : (encode i).length = opLength i.opcode := by
  obtain ⟨op, rfl, hnone⟩ | ⟨r, hrow, hm, -⟩ := Instr.undefined_or_row_of_wf h
  · exact (opLength_of_no_row hnone).symm
  · rw [encode_length, opLength_of_row hrow, hm]

/-! ### The opcode and operand bytes against the instruction -/

/-- A well-formed instruction is the one that its opcode and its operand bytes make. -/
theorem instrOf_opcode_operandBytes {i : Instr} (h : i.wf = true) :
    instrOf i.opcode (i.operandBytes.getD 0 0) (i.operandBytes.getD 1 0) = i := by
  obtain ⟨op, rfl, hnone⟩ | ⟨r, hrow, -, hassemble⟩ := Instr.undefined_or_row_of_wf h
  · exact instrOf_of_no_row hnone _ _
  · simp only [instrOf, hrow, hassemble, Option.getD_some]

/-- The instruction of an opcode and its operand bytes is encoded in them: the operand bytes and those of the instruction
are both the first of the same two bytes, and are equally many. -/
theorem encode_instrOf {op : Byte} {args : List Byte} (h : args.length + 1 = opLength op) :
    encode (instrOf op (args.getD 0 0) (args.getD 1 0)) = op :: args := by
  have hopcode := opcode_instrOf op (args.getD 0 0) (args.getD 1 0)
  have hlength := encode_length_of_wf (wf_instrOf op (args.getD 0 0) (args.getD 1 0))
  rw [hopcode, ← h, encode, List.length_cons] at hlength
  have hargs : args.length ≤ 2 := by have := Machine.opLength_cases op; omega
  have hprefix := List.prefix_of_prefix_length_le (operandBytes_instrOf_prefix op _ _) (isPrefix_operand_pair hargs)
    (Nat.succ.inj hlength).le
  rw [encode, hopcode, hprefix.eq_of_length (Nat.succ.inj hlength)]

end Sys2Proof
end

section
/-! PROOFS. Encoding and decoding are inverse (R57, R60, R61, R64), the decoder follows R61's map, and an undefined opcode
raises the unknown-opcode condition (R62, R150). -/

namespace Sys2Proof.Machine

open Spec

/-- Settles O1: the opcode asks for as many operand bytes as the encoding has, and makes the instruction of them. -/
theorem decodeAfterEncode : Obligations.DecodeAfterEncode := fun i _ h =>
  decode_eq_ok_iff.mpr ⟨i.opcode, i.operandBytes, rfl, encode_length_of_wf h, instrOf_opcode_operandBytes h⟩

/-- Settles O2: the instruction read is the one of an opcode and its operand bytes, and is encoded in them. -/
theorem encodeAfterDecode : Obligations.EncodeAfterDecode := by
  intro bytes rest i h
  obtain ⟨op, args, rfl, hlength, rfl⟩ := decode_eq_ok_iff.mp h
  refine ⟨wf_instrOf op _ _, ?_⟩
  rw [encode_instrOf hlength, List.cons_append]

/-! ### The opcode map (R61) -/

/-- With two bytes after it every opcode decodes (R64). -/
theorem decode_three (op b1 b2 : Byte) (rest : List Byte) :
    ∃ c1 c2 r, decode (op :: b1 :: b2 :: rest) = .ok (instrOf op c1 c2, r) := by
  rcases opLength_cases op with h | h | h <;> simp only [decode, h]
  · exact ⟨0, 0, _, rfl⟩
  · exact ⟨b1, 0, _, rfl⟩
  · exact ⟨b1, b2, _, rfl⟩

/-- Settles O3: the table's row of the opcode holds the map's cell, and the instruction is of that row. -/
theorem opcodeMap : Obligations.OpcodeMap := by
  intro op b1 b2 rest
  obtain ⟨c1, c2, r, hdecode⟩ := decode_three op b1 b2 rest
  refine ⟨_, r, hdecode, ?_⟩
  rw [opcodeCell_eq]
  cases hrow : rowOfOpcode op with
  | none => simp [instrOf_of_no_row hrow]
  | some row =>
    obtain ⟨hn, hm, -⟩ := instrOf_of_row hrow c1 c2
    simp [instrOf_ne_undefined hrow, hn, hm]

/-- Settles O4: the length is that of the mode, and the modes fall into the three lengths. -/
theorem lengthFollowsMode : Obligations.LengthFollowsMode := by
  intro i hwf _
  refine ⟨encode_length_of_wf hwf, ?_⟩
  rw [encode_length]
  cases i.mode <;> decide

/-- Settles O5: the decoder evaluates to the seven instructions. -/
theorem wordsDecode : Obligations.WordsDecode := ⟨rfl, rfl, rfl, rfl, rfl, rfl, rfl⟩

/-! ### The undefined opcodes (R62, R150) -/

/-- R62: a byte decodes to the undefined instruction where that instruction is well formed. -/
theorem decode_undefined_iff (op : Byte) (rest : List Byte) :
    decode (op :: rest) = .ok (.undefined op, rest) ↔ op ∈ undefinedOpcodes :=
  ⟨fun h => Instr.wf_undefined_iff.mp (encodeAfterDecode _ _ _ h).1,
    fun h => decodeAfterEncode (.undefined op) rest (Instr.wf_undefined_iff.mpr h)⟩

/-- R67: an undefined opcode is fetched alone. -/
theorem fetchInstr_of_undefined {s : State} (h : (s.busRead s.pc).1 ∈ undefinedOpcodes) :
    (fetchInstr s).instr = .undefined (s.busRead s.pc).1 := by
  have hrow := rowOfOpcode_eq_none_iff.mpr h
  have hfetch : s.fetch.1 = (s.busRead s.pc).1 := rfl
  simp only [fetchInstr, hfetch, opLength_of_no_row hrow, instrOf_of_no_row hrow]

/-- R150: what every policy records of an unknown opcode. -/
theorem execUndefined_records (op : Byte) (s : State) : ∃ t, execUndefined op s = .next t ∧ t.lastResult.opcode = op
    ∧ t.lastResult.unknown = true ∧ t.lastResult.operandBytes = [] ∧ t.lastResult.cycles = 0 := by
  unfold execUndefined
  cases s.cfg.unknownOpcodePolicy with
  | stop | skipAsNop => exact ⟨_, rfl, rfl, rfl, rfl, rfl⟩

/-- Settles O6: the list's bytes are those without a row, and R150's record is made under either policy. -/
theorem undefinedOpcodesRaise : Obligations.UndefinedOpcodesRaise := by
  refine ⟨rfl, decode_undefined_iff, ?_⟩
  rintro s op hop rfl
  rw [runInstruction, fetchInstr_of_undefined hop]
  exact execUndefined_records _ _

end Sys2Proof.Machine
end

section
/-! PROOFS. The addressing modes (R68, R69, R72 to R81): addresses as numbers, the pointer reads with their wraps, and the
one read of an operand. -/

namespace Sys2Proof

theorem zext16_eq_ofNat {b : Byte} {n : Nat} (h : b.toNat = n) : zext16 b = BitVec.ofNat 16 n := by
  rw [← h, BitVec.ofNat_toNat, zext16]

/-- R77, R78: an index is added modulo 65536. -/
theorem toNat_add_zext16 (w : Word) (b : Byte) : (w + zext16 b).toNat = (w.toNat + b.toNat) % 65536 := by
  rw [BitVec.toNat_add, toNat_zext16]

theorem hi_ne_hi_iff {v w : Word} : (hi v != hi w) = true ↔ v.toNat / 256 ≠ w.toNat / 256 := by
  rw [bne_iff_ne, ne_eq, BitVec.toNat_eq, toNat_hi, toNat_hi]

/-- D7: the address after w in the page of w. -/
theorem cat_hi_lo_add_one (w : Word) :
    cat (hi w) (lo w + 1) = BitVec.ofNat 16 (w.toNat / 256 * 256 + (w.toNat + 1) % 256) := by
  have hlow : (lo w + 1).toNat = (w.toNat + 1) % 256 := by simp [toNat_lo]
  rw [cat_eq_ofNat, toNat_hi, hlow]

namespace Machine

open Spec

/-- R74, R75: zero-page indexing wraps in page 0. -/
theorem toNat_zext16_add (b index : Byte) : (zext16 (b + index)).toNat = (b.toNat + index.toNat) % 256 := by
  rw [toNat_zext16, BitVec.toNat_add]

/-- R77, R78: indexing crosses a page when the base and the address lie in different ones. -/
theorem indexed_crossed_iff (base : Word) (index : Byte) (s : State) : (indexed base index s).crossed = true
    ↔ base.toNat / 256 ≠ (base.toNat + index.toNat) % 65536 / 256 := by
  rw [← toNat_add_zext16]
  exact hi_ne_hi_iff

/-- Settles O7: each address is a sum of at most two numbers, and none of the six forms touches the state. -/
theorem directAddresses : Obligations.DirectAddresses := by
  intro s b w
  refine ⟨toNat_zext16 b, toNat_zext16_add b s.x, toNat_zext16_add b s.y, rfl, toNat_add_zext16 w s.x,
    toNat_add_zext16 w s.y, ?_, indexed_crossed_iff w s.x s, indexed_crossed_iff w s.y s, ?_⟩
  · simp [effAddr]
  · simp [effAddr, indexed]

/-- Settles O8: a pointer is the two bytes read, joined; its second address wraps in page 0, or in the page of the first. -/
theorem pointerAddresses : Obligations.PointerAddresses := by
  intro s b w
  have hx : zext16 (b + s.x) = BitVec.ofNat 16 ((b.toNat + s.x.toNat) % 256) := zext16_eq_ofNat (BitVec.toNat_add b s.x)
  have hx1 : zext16 (b + s.x + 1) = BitVec.ofNat 16 ((b.toNat + s.x.toNat + 1) % 256) := zext16_eq_ofNat (by simp)
  have hy : zext16 b = BitVec.ofNat 16 b.toNat := zext16_eq_ofNat rfl
  have hy1 : zext16 (b + 1) = BitVec.ofNat 16 ((b.toNat + 1) % 256) := zext16_eq_ofNat (BitVec.toNat_add b 1)
  rw [← hx, ← hx1, ← hy, ← hy1, ← cat_hi_lo_add_one]
  refine ⟨⟨toNat_cat _ _, rfl, rfl⟩, ?_, toNat_cat _ _, rfl⟩
  dsimp only
  rw [← toNat_cat]
  exact ⟨toNat_add_zext16 _ s.y, indexed_crossed_iff _ s.y _, rfl⟩

/-- R36, R69: with no reader hook a memory operand is the byte of RAM at its address. -/
theorem readOperand_bare_val {s : State} (h : s.hooks.readers = []) (m : MemOperand) :
    operandByte s (.memory m) = s.ramByte (effAddr s m).addr := by
  have hread : operandByte s (.memory m) = ((effAddr s m).st.memRead (effAddr s m).addr).1 := rfl
  rw [hread, effAddr_bare_st h, State.memRead_bare h]

/-- Settles O9: the first two clauses are the definition's two cases; without reader hooks every read is one of RAM. -/
theorem operandIsReadOnce : Obligations.OperandIsReadOnce := fun _ _ m =>
  ⟨⟨rfl, rfl⟩, ⟨rfl, rfl⟩, fun h => ⟨readOperand_bare_val h m, readOperand_bare_st h _⟩⟩

end Machine

end Sys2Proof
end

section
/-! PROOFS. The step of a running machine with no interrupt to take (R67, R147, R164): the decoded instruction runs with PC
past its bytes. -/

namespace Sys2Proof.Machine

/-- R147: with no NMI latched, and no IRQ asserted or IRQs masked, the poll chooses the next instruction. -/
theorem poll_eq_instruction {s : State} (hnmi : s.nmiPending = false) (hirq : s.irqLine = false ∨ s.p.i = true) :
    poll s = .instruction := by
  rcases hirq with h | h <;> simp [poll, hnmi, h]

/-- R164: the system step is the CPU step, then what follows it. -/
theorem systemStep_of_cpuStep {s t : State} (h : cpuStep s = .next t) : systemStep s = .next t.finishStep := by
  simp only [systemStep, h]

section
variable {s : State} (hplain : ∀ k < 3, hookAt s.hooks.readers (s.pc + BitVec.ofNat 16 k).toNat = none)
include hplain

/-- R9: each of the plain cells at PC is fetched from RAM. -/
theorem fetch_at_plain {k : Nat} (hk : k < 3) : (s.setPc (s.pc + BitVec.ofNat 16 k)).fetch
    = (s.ramByte (s.pc + BitVec.ofNat 16 k), s.setPc (s.pc + BitVec.ofNat 16 (k + 1))) := by
  have hnext : s.pc + BitVec.ofNat 16 (k + 1) = s.pc + BitVec.ofNat 16 k + 1 := by bv_omega
  rw [State.fetch_plain (hplain k hk), hnext]
  rfl

/-- R57, R67: the fetch changes PC only, by the length of the opcode. -/
theorem fetchInstr_st_plain :
    (fetchInstr s).st = s.setPc (s.pc + BitVec.ofNat 16 (opLength (s.ramByte s.pc))) := by
  have fetch0 : s.fetch = (s.ramByte s.pc, s.setPc (s.pc + BitVec.ofNat 16 1)) :=
    State.fetch_plain (by simpa using hplain 0 (by decide))
  have fetch1 := fetch_at_plain hplain (k := 1) (by decide)
  have fetch2 := fetch_at_plain hplain (k := 2) (by decide)
  rcases opLength_cases (s.ramByte s.pc) with hlength | hlength | hlength <;>
    simp only [fetchInstr, fetch0, fetch1, fetch2, hlength]

/-- R67: the cells at PC decode to the fetched instruction, and PC is past its bytes. -/
theorem fetchInstr_of_decode {i : Instr} {rest : List Byte}
    (hdecode : decode [s.ramByte s.pc, s.ramByte (s.pc + 1), s.ramByte (s.pc + 2)] = .ok (i, rest)) :
    fetchInstr s = ⟨i, s.setPc (s.pc + BitVec.ofNat 16 (encode i).length)⟩ := by
  obtain ⟨rest', hfetched⟩ := decode_of_fetchInstr hplain
  have hinstr : (fetchInstr s).instr = i := by
    rw [hdecode] at hfetched
    cases hfetched
    rfl
  obtain ⟨hwf, hbytes⟩ := encodeAfterDecode _ _ _ hdecode
  have hopcode : i.opcode = s.ramByte s.pc := (List.cons.inj hbytes).1
  have hst := fetchInstr_st_plain hplain
  rw [← hopcode, ← encode_length_of_wf hwf] at hst
  rw [← hst, ← hinstr]

end

/-- Settles O39: the poll chooses the instruction, and the fetch gives the decoded one. -/
theorem stepRunsDecoded : Obligations.StepRunsDecoded := by
  intro s i rest hrunning hnmi hirq hplain hdecode t hexec
  have hcpu : cpuStep s = .next t := by
    simpa only [cpuStep, poll_eq_instruction hnmi hirq, runInstruction, fetchInstr_of_decode hplain hdecode] using hexec
  rw [step_of_running hrunning, systemStep_of_cpuStep hcpu]

end Sys2Proof.Machine
end

section
/-! PROOFS. What a completed instruction leaves as it was (R84), and the cycles of the instructions that read an operand and
of the stores (R83, R199), read off the opcode table. -/

namespace Sys2Proof

open Spec

/-! ### Cycles -/

/-- The instructions that read an operand byte (R69). -/
def Mnemonic.reads : Mnemonic → Bool
  | .lda | .ldx | .ldy | .adc | .sbc | .cmp | .cpx | .cpy | .and | .ora | .eor | .bit => true
  | _ => false

/-- The stores (R89 to R91). -/
def Mnemonic.stores : Mnemonic → Bool
  | .sta | .stx | .sty => true
  | _ => false

/-- The memory forms whose address can lie in another page than their base (R77, R78, R81). -/
def MemOperand.canCross : MemOperand → Bool
  | .absoluteX _ | .absoluteY _ | .indirectY _ => true
  | .zeroPage _ | .zeroPageX _ | .zeroPageY _ | .absolute _ | .indirectX _ => false

theorem row_of_immediate : ∀ r ∈ opcodeTable, r.mode = .immediate → r.cycles = 2 ∧ r.pagePenalty = false := by
  decide +kernel

/-- R83, R199: the row of a read from memory has the cycles of its mode, and the penalty where a page can be crossed. -/
theorem row_of_memRead (m : MemOperand) : ∀ r ∈ opcodeTable, r.mn.reads = true → r.mode = m.mode →
    r.cycles = memReadCycles m ∧ r.pagePenalty = m.canCross := by
  cases m <;> simp only [MemOperand.mode, memReadCycles, MemOperand.canCross] <;> decide +kernel

/-- R199: the row of a store has the cycles of its mode. -/
theorem row_of_store (m : MemOperand) : ∀ r ∈ opcodeTable, r.mn.stores = true → r.mode = m.mode →
    r.cycles = storeCycles m := by
  cases m <;> simp only [MemOperand.mode, storeCycles] <;> decide +kernel

theorem effAddr_not_crossed {m : MemOperand} (h : m.canCross = false) (s : Machine.State) :
    (Machine.effAddr s m).crossed = false := by
  cases m with
  | absoluteX w | absoluteY w | indirectY b => cases h
  | zeroPage b | zeroPageX b | zeroPageY b | absolute w | indirectX b => rfl

namespace Machine

section
variable {i : Instr}

/-- R83, R84: the cycles a read instruction consumes. -/
theorem baseCycles_add_crossPenalty {o : ReadOperand} (hreads : i.mnemonic.reads = true) (hmode : i.mode = o.mode)
    (hwf : i.wf = true) (s : State) :
    i.baseCycles + crossPenalty i (readOperand s o).crossed = readCycles s o := by
  obtain ⟨r, hrow⟩ := Instr.row_of_wf hwf (by rintro op rfl; cases hreads)
  obtain ⟨hmem, hmn, hrmode⟩ := Instr.row_sound hrow
  rw [crossPenalty, Instr.baseCycles_of_row hrow, Instr.pagePenalty_of_row hrow]
  cases o with
  | immediate b =>
    obtain ⟨hcycles, hpenalty⟩ := row_of_immediate r hmem (hrmode.trans hmode)
    simp [hcycles, hpenalty, readCycles]
  | memory m =>
    obtain ⟨hcycles, hpenalty⟩ := row_of_memRead m r hmem (hmn ▸ hreads) (hrmode.trans hmode)
    cases hcross : m.canCross with
    | true => simp [hcycles, hpenalty, hcross, readCycles, readOperand]
    | false => simp [hcycles, hpenalty, hcross, readCycles, effAddr_not_crossed hcross s]

/-- R84: the cycles of a store. -/
theorem baseCycles_of_store {m : MemOperand} (hstores : i.mnemonic.stores = true) (hmode : i.mode = m.mode)
    (hwf : i.wf = true) : i.baseCycles = storeCycles m := by
  obtain ⟨r, hrow⟩ := Instr.row_of_wf hwf (by rintro op rfl; cases hstores)
  obtain ⟨hmem, hmn, hrmode⟩ := Instr.row_sound hrow
  rw [Instr.baseCycles_of_row hrow]
  exact row_of_store m r hmem (hmn ▸ hstores) (hrmode.trans hmode)

end

/-! ### What an instruction leaves as it was -/

/-- The part of a state that no register write and no memory access touches: everything but the CPU registers, RAM and the
devices, which are blanked here, as is what `retire` records of the step. -/
def State.rest (s : State) : State :=
  { s with
    a := 0, x := 0, y := 0, sp := 0, pc := 0, p := State.reset.p, ram := [], dev := Devices.reset
    stepCycles := 0, lastStep := State.reset.lastStep, lastResult := State.reset.lastResult }

section
variable (s : State)

@[simp] theorem State.setA_rest (v : Byte) : (s.setA v).rest = s.rest := rfl
@[simp] theorem State.setX_rest (v : Byte) : (s.setX v).rest = s.rest := rfl
@[simp] theorem State.setY_rest (v : Byte) : (s.setY v).rest = s.rest := rfl
@[simp] theorem State.setSp_rest (v : Byte) : (s.setSp v).rest = s.rest := rfl
@[simp] theorem State.setP_rest (q : Status) : (s.setP q).rest = s.rest := rfl
@[simp] theorem State.withDev_rest (d : Devices) : (s.withDev d).rest = s.rest := rfl
@[simp] theorem State.memWrite_rest (a : Word) (b : Byte) : (s.memWrite a b).rest = s.rest := rfl
@[simp] theorem effAddr_rest (m : MemOperand) : (effAddr s m).st.rest = s.rest := by
  rw [effAddr_st, State.withDev_rest]
@[simp] theorem readOperand_rest (o : ReadOperand) : (readOperand s o).st.rest = s.rest := by
  rw [readOperand_st, State.withDev_rest]

end

section
variable {i : Instr} {s u : State} (hrest : u.rest = s.rest)
include hrest

/-- R29, R84: completing an instruction after operations that leave the rest alone. -/
theorem retired_retire {k n : Nat} (hcycles : i.baseCycles + k = n) : Retired i n s (u.retire i k) where
  stepCycles := hcycles
  counted := congrArg (·.instructionsExecuted + 1) hrest
  record := hcycles ▸ rfl
  kind := rfl
  cfg := (congrArg State.cfg hrest :)
  hooks := (congrArg State.hooks hrest :)
  nmiLine := (congrArg State.nmiLine hrest :)
  nmiPending := (congrArg State.nmiPending hrest :)
  irqLine := (congrArg State.irqLine hrest :)
  totalCycles := (congrArg State.totalCycles hrest :)
  runStatus := (congrArg State.runStatus hrest :)
  run := (congrArg State.run hrest :)
  lastTrigger := (congrArg State.lastTrigger hrest :)
  inputs := (congrArg State.inputs hrest :)

/-- Completing an instruction that accessed no memory. -/
theorem quietDone_retire {k n : Nat} (hcycles : i.baseCycles + k = n) (hram : u.ram = s.ram) (hdev : u.dev = s.dev) :
    QuietDone i n s (u.retire i k) where
  retired := retired_retire hrest hcycles
  ram c _ := congrArg (·.read c.toNat) hram
  dev := hdev

/-- Completing an instruction that read its operand and wrote CPU registers. -/
theorem readDone_retire {o : ReadOperand} (hreads : i.mnemonic.reads = true) (hmode : i.mode = o.mode)
    (hwf : i.wf = true) (hram : u.ram = s.ram) (hdev : u.dev = (readOperand s o).st.dev) :
    ReadDone i o s (u.retire i (crossPenalty i (readOperand s o).crossed)) where
  retired := retired_retire hrest (baseCycles_add_crossPenalty hreads hmode hwf s)
  ram c _ := congrArg (·.read c.toNat) hram
  dev := hdev

end

/-- R85: `SetNZ` is the statements' `nz`. -/
theorem setNZ_eq_nz (p : Status) (v : Byte) : setNZ p v = nz p v := by
  have hzero : (v == 0) = decide (v.toNat = 0) := by
    rw [Bool.eq_iff_iff, beq_iff_eq, decide_eq_true_iff]
    exact BitVec.toNat_eq
  rw [setNZ, nz, hzero]
  rfl

end Machine

end Sys2Proof
end

section
/-! PROOFS. Loads, stores and transfers (R85 to R97): one lemma for each shared form, from which the instructions are read
off. -/

namespace Sys2Proof.Machine

open Spec

/-! ### Register writes -/

/-- What loads and transfers need of `set`: it writes CPU registers only, and has nothing to do with the devices. -/
structure RegWrite (set : State → Byte → State) : Prop where
  rest : ∀ s v, (set s v).rest = s.rest
  ram : ∀ s v, (set s v).ram = s.ram
  withDev : ∀ s v d, set (s.withDev d) v = (set s v).withDev d

theorem RegWrite.dev {set : State → Byte → State} (h : RegWrite set) (s : State) (v : Byte) :
    (set s v).dev = s.dev :=
  (congrArg State.dev (h.withDev s v s.dev) :)

theorem regWrite_setA : RegWrite State.setA := ⟨State.setA_rest, State.setA_ram, fun _ _ _ => rfl⟩
theorem regWrite_setX : RegWrite State.setX := ⟨State.setX_rest, State.setX_ram, fun _ _ _ => rfl⟩
theorem regWrite_setY : RegWrite State.setY := ⟨State.setY_rest, State.setY_ram, fun _ _ _ => rfl⟩

/-! ### The shared forms -/

section
variable {i : Instr} {set : State → Byte → State}

/-- R86 to R88: a load leaves the registers that `set` makes of M, with N and Z of M. -/
theorem loadWith_done {o : ReadOperand} (hset : RegWrite set) (hreads : i.mnemonic.reads = true)
    (hmode : i.mode = o.mode) (hwf : i.wf = true) (s : State) :
    let w := set s (operandByte s o)
    ∃ t, loadWith i o set s = .next t ∧ ReadDone i o s t ∧ Regs t w.a w.x w.y w.sp w.pc (nz s.p (operandByte s o)) := by
  have hst : set (readOperand s o).st (operandByte s o)
      = (set s (operandByte s o)).withDev (readOperand s o).st.dev :=
    (congrArg (set · _) (readOperand_st s o)).trans (hset.withDev _ _ _)
  refine ⟨_, rfl, ?_, ?_⟩
  · exact readDone_retire (by simp [hset.rest]) hreads hmode hwf (by simp [hset.ram]) (by simp [hset.dev])
  · rw [hst, setNZ_eq_nz]
    exact ⟨rfl, rfl, rfl, rfl, rfl, rfl⟩

/-- R92 to R96: a transfer leaves the registers that `set` makes of the value, with N and Z of the value. -/
theorem moveWith_done (hset : RegWrite set) (v : Byte) (s : State) :
    ∃ t, moveWith i v set s = .next t ∧ QuietDone i i.baseCycles s t
      ∧ Regs t (set s v).a (set s v).x (set s v).y (set s v).sp (set s v).pc (nz s.p v) :=
  ⟨_, rfl, quietDone_retire (by simp [hset.rest]) rfl (by simp [hset.ram]) (by simp [hset.dev]),
    ⟨rfl, rfl, rfl, rfl, rfl, setNZ_eq_nz _ _⟩⟩

/-- R89 to R91: a store makes one write, at the effective address, and leaves every register. -/
theorem storeWith_done {m : MemOperand} (hstores : i.mnemonic.stores = true) (hmode : i.mode = m.mode)
    (hwf : i.wf = true) (v : Byte) (s : State) :
    ∃ t, storeWith i m v s = .next t ∧ Retired i (storeCycles m) s t
      ∧ Regs t s.a s.x s.y s.sp s.pc s.p
      ∧ RamSameBut [(effAddr s m).addr] s t
      ∧ (t.ram, t.dev) = (effAddr s m).st.busWrite (effAddr s m).addr v
      ∧ (s.ram.wf ramSize = true → hookAt s.hooks.writers (effAddr s m).addr.toNat = none →
          t.ramByte (effAddr s m).addr = v) := by
  refine ⟨_, rfl, ?_, ?_, ?_, rfl, ?_⟩
  · exact retired_retire (by simp) (baseCycles_of_store hstores hmode hwf)
  · constructor <;> simp
  · exact fun c hc => ((effAddr s m).st.memWrite_ramSameBut _ v c hc).trans (effAddr_ramByte s c m)
  · exact fun hram hplain => State.memWrite_ramByte_same v (by simpa using hplain) (by simpa using hram)

end

/-! ### The instructions -/

/-- Settles O10: each load is `loadWith` on its register. -/
theorem loadsTakeOperand : Obligations.LoadsTakeOperand := fun s _ =>
  ⟨fun hwf => loadWith_done regWrite_setA rfl rfl hwf s, fun hwf => loadWith_done regWrite_setX rfl rfl hwf s,
    fun hwf => loadWith_done regWrite_setY rfl rfl hwf s⟩

/-- Settles O11: each store is `storeWith` of its register. -/
theorem storesWriteRegister : Obligations.StoresWriteRegister := by
  intro s m i v hmem hwf
  simp only [List.mem_cons, Prod.mk.injEq, List.not_mem_nil, or_false] at hmem
  obtain ⟨rfl, rfl⟩ | ⟨rfl, rfl⟩ | ⟨rfl, rfl⟩ := hmem
  · exact storeWith_done rfl rfl hwf s.a s
  · exact storeWith_done rfl rfl hwf s.x s
  · exact storeWith_done rfl rfl hwf s.y s

/-- Settles O12: five transfers are `moveWith` on their register; TXS writes SP and leaves P. -/
theorem transfersMoveRegister : Obligations.TransfersMoveRegister := fun s =>
  ⟨moveWith_done regWrite_setX s.a s, moveWith_done regWrite_setY s.a s, moveWith_done regWrite_setA s.x s,
    moveWith_done regWrite_setA s.y s, moveWith_done regWrite_setX s.sp s,
    _, rfl, quietDone_retire (s.setSp_rest s.x) rfl rfl rfl, ⟨rfl, rfl, rfl, rfl, rfl, rfl⟩⟩

end Sys2Proof.Machine
end

section
/-! PROOFS. The stack instructions (R98 to R101): the addresses of the stack bytes, one lemma for the pushes and one for
the pulls. -/

namespace Sys2Proof.Machine

open Spec

/-! ### Stack addresses (R14) -/

theorem stackAddr_eq_ofNat (sp : Byte) : stackAddr sp = BitVec.ofNat 16 (0x100 + sp.toNat) := by
  rw [← toNat_stackAddr, BitVec.ofNat_toNat, BitVec.setWidth_eq]

/-- R14: the byte k places below SP is the one that SP less k, modulo 256, selects. -/
theorem stackSlot_eq (s : State) {k : Nat} (hk : k ≤ 256) : stackSlot s k = stackAddr (s.sp - BitVec.ofNat 8 k) := by
  have hsp : (s.sp - BitVec.ofNat 8 k).toNat = (s.sp.toNat + 256 - k) % 256 := by
    rw [BitVec.toNat_sub, BitVec.toNat_ofNat]
    omega
  rw [stackAddr_eq_ofNat, hsp, stackSlot]

/-- R14: the byte k places above SP is the one that SP plus k, modulo 256, selects. -/
theorem stackAbove_eq (s : State) (k : Nat) : stackAbove s k = stackAddr (s.sp + BitVec.ofNat 8 k) := by
  have hsp : (s.sp + BitVec.ofNat 8 k).toNat = (s.sp.toNat + k) % 256 := by simp
  rw [stackAddr_eq_ofNat, hsp, stackAbove]

/-- R14: SP itself selects the byte that a push writes. -/
theorem stackSlot_zero (s : State) : stackSlot s 0 = stackAddr s.sp := by
  rw [stackSlot_eq s (Nat.zero_le _), BitVec.sub_zero]

/-- R40: SP lowered by 1 modulo 256, as a number. -/
theorem byte_sub_one_eq_ofNat (b : Byte) : b - 1 = BitVec.ofNat 8 (b.toNat + 255) := by bv_omega

/-- R40: SP raised by 1 modulo 256, as a number. -/
theorem byte_add_one_eq_ofNat (b : Byte) : b + 1 = BitVec.ofNat 8 (b.toNat + 1) := by bv_omega

/-! ### Pushes (R40, R98, R99) -/

@[simp] theorem State.push_rest (s : State) (v : Byte) : (s.push v).rest = s.rest := rfl

@[simp] theorem State.pull_rest (s : State) : s.pull.2.rest = s.rest := rfl

/-- R98, R99: an instruction that pushes one byte makes one write, at the stack byte, and moves SP. -/
theorem push_done {i : Instr} {n : Nat} (hcycles : i.baseCycles = n) (v : Byte) (s : State) :
    let t := (s.push v).retire i 0
    Retired i n s t
      ∧ Regs t s.a s.x s.y (BitVec.ofNat 8 (s.sp.toNat + 255)) s.pc s.p
      ∧ RamSameBut [stackSlot s 0] s t
      ∧ (t.ram, t.dev) = s.busWrite (stackSlot s 0) v
      ∧ (s.ram.wf ramSize = true → Plain s (stackSlot s 0) → t.ramByte (stackSlot s 0) = v) := by
  rw [stackSlot_zero]
  exact ⟨retired_retire (s.push_rest v) hcycles,
    ⟨s.push_a v, s.push_x v, s.push_y v, byte_sub_one_eq_ofNat s.sp, s.push_pc v, s.push_p v⟩,
    s.memWrite_ramSameBut _ v, rfl, fun hram ⟨_, hwriters⟩ => State.push_ramByte_same v hwriters hram⟩

/-- Settles O13: each is a push of its byte. -/
theorem pushesWriteStack : Obligations.PushesWriteStack := by
  intro s i v hmem
  simp only [List.mem_cons, Prod.mk.injEq, List.not_mem_nil, or_false] at hmem
  obtain ⟨rfl, rfl⟩ | ⟨rfl, rfl⟩ := hmem
  · exact ⟨_, rfl, push_done rfl s.a s⟩
  · exact ⟨_, rfl, push_done rfl (pushImageSW s.p) s⟩

/-! ### Pulls (R40, R100, R101) -/

/-- R40: a pull is a read of the byte above SP, with SP raised. -/
theorem State.pull_eq (s : State) : s.pull = (s.setSp (s.sp + 1)).memRead (stackAbove s 1) := by
  rw [stackAbove_eq]
  rfl

/-- R17: a pulled byte read back from P has bit 5 set and bit 4 clear. -/
theorem toByte_statusOfByte (b : Byte) : (statusOfByte b).toByte = (b &&& 0xCF) ||| 0x20 := by
  ext j hj
  interval_cases j <;> simp [Status.toByte, statusOfByte, getElem_flagBit]

/-- R147: the poll after an instruction sees the lines as they were and the I it left. -/
theorem poll_of_retired {i : Instr} {n : Nat} {s t : State} (h : Retired i n s t) : poll t = polled s t.p.i := by
  simp [poll, polled, h.nmiPending, h.irqLine]

/-- R100, R101: an instruction that pulls one byte and leaves `a` and `p` in A and P (PLP the A it found) makes one
read, at the byte above SP, stores nothing, and moves SP. -/
theorem pull_done {i : Instr} {n : Nat} (hcycles : i.baseCycles = n) (a : Byte) (p : Status) (s : State) :
    let t := ((s.pull.2.setA a).setP p).retire i 0
    Retired i n s t ∧ RamSameBut [] s t
      ∧ t.dev = ((s.setSp (s.sp + 1)).busRead (stackAbove s 1)).2
      ∧ Regs t a s.x s.y (BitVec.ofNat 8 (s.sp.toNat + 1)) s.pc p :=
  ⟨retired_retire (by simp) hcycles, fun c _ => s.pull_ramByte c, congrArg (·.2.dev) s.pull_eq,
    ⟨rfl, s.pull_x, s.pull_y, byte_add_one_eq_ofNat s.sp, s.pull_pc, rfl⟩⟩

/-- R40: where the byte above SP is plain RAM, a pull gives it and has no effect on devices. -/
theorem pull_busRead_plain {s : State} (h : Plain s (stackAbove s 1)) :
    (s.setSp (s.sp + 1)).busRead (stackAbove s 1) = (s.ramByte (stackAbove s 1), s.dev) :=
  State.busRead_plain (s := s.setSp (s.sp + 1)) h.1

/-- Settles O14: both pull one byte, PLA into A, PLP into P. -/
theorem pullsReadStack : Obligations.PullsReadStack := by
  intro s v d
  have hv : s.pull.1 = v := congrArg Prod.fst s.pull_eq
  refine ⟨fun h => Prod.ext_iff.mp (pull_busRead_plain h), ?_, ?_⟩
  · have hpla : exec .pla s = .next (((s.pull.2.setA v).setP (nz s.p v)).retire .pla 0) := by
      rw [← hv, ← setNZ_eq_nz]
      rfl
    exact ⟨_, hpla, pull_done rfl v (nz s.p v) s⟩
  · have hplp : exec .plp s = .next (((s.pull.2.setA s.a).setP (statusOfByte v)).retire .plp 0) := by
      rw [← hv]
      rfl
    obtain ⟨hretired, hram, hdev, hregs⟩ := pull_done (i := .plp) rfl s.a (statusOfByte v) s
    exact ⟨_, hplp, hretired, hram, hdev, hregs, toByte_statusOfByte v, poll_of_retired hretired⟩

end Sys2Proof.Machine
end

section
/-! PROOFS. The shared forms of the instructions that calculate: A from A and M (ADC, SBC and the logic), the flags from
a register and M (the compares, BIT), and a byte of memory read and written back (INC, DEC and the shifts of memory). -/

namespace Sys2Proof

open Spec

/-- The read-modify-write instructions (R69, R119). -/
def Mnemonic.modifies : Mnemonic → Bool
  | .inc | .dec | .asl | .lsr | .rol | .ror => true
  | _ => false

/-- R199: the row of a read-modify-write of memory has the cycles of its mode. -/
theorem row_of_modify (m : MemOperand) : ∀ r ∈ opcodeTable, r.mn.modifies = true → r.mode = m.mode →
    r.cycles = modifyCycles m := by
  cases m <;> simp only [MemOperand.mode, modifyCycles] <;> decide +kernel

namespace Machine

section
variable {i : Instr}

/-- R84: the cycles of a read-modify-write of memory. -/
theorem baseCycles_of_modify {m : MemOperand} (hmodifies : i.mnemonic.modifies = true) (hmode : i.mode = m.mode)
    (hwf : i.wf = true) : i.baseCycles = modifyCycles m := by
  obtain ⟨r, hrow⟩ := Instr.row_of_wf hwf (by rintro op rfl; cases hmodifies)
  obtain ⟨hmem, hmn, hrmode⟩ := Instr.row_sound hrow
  rw [Instr.baseCycles_of_row hrow]
  exact row_of_modify m r hmem (hmn ▸ hmodifies) (hrmode.trans hmode)

/-- R103, R104, R115 to R117: A and P become the result of the operation on A, M and P. -/
theorem accumulateWith_done {o : ReadOperand} {op : Byte → Byte → Status → Byte × Status}
    (hreads : i.mnemonic.reads = true) (hmode : i.mode = o.mode) (hwf : i.wf = true) (s : State) :
    let q := op s.a (operandByte s o) s.p
    ∃ t, accumulateWith i o op s = .next t ∧ ReadDone i o s t ∧ Regs t q.1 s.x s.y s.sp s.pc q.2 := by
  refine ⟨_, rfl, readDone_retire (by simp) hreads hmode hwf (by simp) (by simp), ?_⟩
  constructor <;> simp

/-- R105 to R108, R118: P becomes the result of the operation on M and P, and no other register changes. -/
theorem testWith_done {o : ReadOperand} {op : Byte → Status → Status}
    (hreads : i.mnemonic.reads = true) (hmode : i.mode = o.mode) (hwf : i.wf = true) (s : State) :
    ∃ t, testWith i o op s = .next t ∧ ReadDone i o s t
      ∧ Regs t s.a s.x s.y s.sp s.pc (op (operandByte s o) s.p) := by
  refine ⟨_, rfl, readDone_retire (by simp) hreads hmode hwf (by simp) (by simp), ?_⟩
  constructor <;> simp

/-- R69, R109, R110, R119: one read and one write, both at the effective address, of the byte and its result. -/
theorem modifyWith_done {m : MemOperand} {op : Byte → Status → Byte × Status}
    (hmodifies : i.mnemonic.modifies = true) (hmode : i.mode = m.mode) (hwf : i.wf = true) (s : State) :
    let e := effAddr s m
    let old := e.st.busRead e.addr
    let q := op old.1 s.p
    ∃ t, modifyWith i m op s = .next t ∧ Retired i (modifyCycles m) s t
      ∧ Regs t s.a s.x s.y s.sp s.pc q.2
      ∧ RamSameBut [e.addr] s t
      ∧ (t.ram, t.dev) = (e.st.withDev old.2).busWrite e.addr q.1
      ∧ (s.ram.wf ramSize = true → Plain s e.addr → old.1 = s.ramByte e.addr ∧ t.ramByte e.addr = q.1) := by
  intro e old q
  refine ⟨_, rfl, ?_, ?_, ?_, rfl, ?_⟩
  · exact retired_retire (by simp) (baseCycles_of_modify hmodifies hmode hwf)
  · constructor <;> simp [e, old, q]
  · exact fun c hc => ((e.st.memRead e.addr).2.memWrite_ramSameBut e.addr q.1 c hc).trans (effAddr_ramByte s c m)
  · intro hram ⟨hreaders, hwriters⟩
    have hold : old = (e.st.ramByte e.addr, e.st.dev) := State.busRead_plain (by simpa [e] using hreaders)
    exact ⟨(congrArg Prod.fst hold).trans (effAddr_ramByte s e.addr m),
      State.memWrite_ramByte_same q.1 (by simpa [e] using hwriters) (by simpa [e] using hram)⟩

end

/-- A after an accumulator operation. -/
theorem accumulateWith_a {i : Instr} {o : ReadOperand} {op : Byte → Byte → Status → Byte × Status} {s t : State}
    (h : accumulateWith i o op s = .next t) : t.a = (op s.a (operandByte s o) s.p).1 := by
  cases h
  rfl

end Machine

end Sys2Proof
end

section
/-! PROOFS. Increments, decrements and compares (R105 to R114), and what N and Z are of a number narrowed to a byte. -/

namespace Sys2Proof.Machine

open Spec

/-! ### A number narrowed to a byte (R102) -/

theorem toNat_ofInt_byte (d : Int) : ((BitVec.ofInt 8 d).toNat : Int) = d % 256 := by
  rw [BitVec.toNat_ofInt]
  exact Int.toNat_of_nonneg (Int.emod_nonneg d (by decide))

theorem bit7_ofInt (d : Int) : bit7 (BitVec.ofInt 8 d) = decide (128 ≤ d % 256) := by
  rw [bit7_eq_decide, decide_eq_decide, ← toNat_ofInt_byte]
  omega

theorem ofInt_beq_zero (d : Int) : (BitVec.ofInt 8 d == 0) = decide (d % 256 = 0) := by
  rw [Bool.eq_iff_iff, beq_iff_eq, decide_eq_true_iff, ← toNat_ofInt_byte, Int.natCast_eq_zero]
  exact BitVec.toNat_eq

/-- R85: N and Z of a number narrowed to a byte. -/
theorem setNZ_ofInt (p : Status) (d : Int) :
    setNZ p (BitVec.ofInt 8 d) = { p with n := decide (128 ≤ d % 256), z := decide (d % 256 = 0) } := by
  rw [setNZ, bit7_ofInt, ofInt_beq_zero]

/-! ### Increments and decrements (R109 to R114) -/

/-- Settles O20: INC and DEC are `modifyWith` of the byte plus and minus 1. -/
theorem incDecMemory : Obligations.IncDecMemory := by
  intro s m i delta hmem hwf e old new
  simp only [List.mem_cons, Prod.mk.injEq, List.not_mem_nil, or_false] at hmem
  obtain ⟨rfl, rfl⟩ | ⟨rfl, rfl⟩ := hmem
  · have hnew : new = old.1 + 1 := (byte_add_one_eq_ofNat old.1).symm
    rw [hnew, ← setNZ_eq_nz]
    exact modifyWith_done (op := fun v p => (v + 1, setNZ p (v + 1))) rfl rfl hwf s
  · have hnew : new = old.1 - 1 := (byte_sub_one_eq_ofNat old.1).symm
    rw [hnew, ← setNZ_eq_nz]
    exact modifyWith_done (op := fun v p => (v - 1, setNZ p (v - 1))) rfl rfl hwf s

/-- Settles O21: each is `moveWith` of its own register plus or minus 1. -/
theorem incDecRegisters : Obligations.IncDecRegisters := by
  intro s
  simp only [← byte_add_one_eq_ofNat, ← byte_sub_one_eq_ofNat]
  exact ⟨moveWith_done regWrite_setX (s.x + 1) s, moveWith_done regWrite_setY (s.y + 1) s,
    moveWith_done regWrite_setX (s.x - 1) s, moveWith_done regWrite_setY (s.y - 1) s⟩

/-! ### Compares (R105 to R108) -/

/-- R105: the flags of a compare are those of the difference as a number; only the equal bytes have the difference 0
modulo 256. -/
theorem compareFlags_eq (r m : Byte) (p : Status) :
    let diff : Int := (r.toNat : Int) - m.toNat
    compareFlags r m p
      = { p with c := decide (0 ≤ diff), z := decide (diff = 0), n := decide (128 ≤ diff % 256) } := by
  intro diff
  have hr := r.isLt
  have hm := m.isLt
  have hsub : r - m = BitVec.ofInt 8 diff := by
    apply BitVec.eq_of_toNat_eq
    have hdiff := toNat_ofInt_byte diff
    rw [BitVec.toNat_sub]
    omega
  have hcarry : decide (m.toNat ≤ r.toNat) = decide (0 ≤ diff) := decide_eq_decide.mpr (by omega)
  have hzero : decide (diff % 256 = 0) = decide (diff = 0) := decide_eq_decide.mpr (by omega)
  rw [compareFlags, hsub, setNZ_ofInt, hcarry, hzero]

/-- Settles O19: each compare is `testWith` of `compareFlags` on its register. -/
theorem comparesSetFlags : Obligations.ComparesSetFlags := by
  intro s o i r hmem hwf diff
  rw [← compareFlags_eq r (operandByte s o) s.p]
  simp only [List.mem_cons, Prod.mk.injEq, List.not_mem_nil, or_false] at hmem
  obtain ⟨rfl, rfl⟩ | ⟨rfl, rfl⟩ | ⟨rfl, rfl⟩ := hmem
  · exact testWith_done rfl rfl hwf s
  · exact testWith_done rfl rfl hwf s
  · exact testWith_done rfl rfl hwf s

end Sys2Proof.Machine
end

section
/-! PROOFS. ADC and SBC in binary and in decimal mode (R103, R104), and decimal mode as arithmetic on two-digit numbers
(D19). -/

namespace Sys2Proof.Machine

open Spec

/-! ### Digits and carries as numbers -/

theorem toNat_and_f0 (b : Byte) : (b &&& 0xF0).toNat = b.toNat / 16 * 16 := by
  revert b
  decide

theorem carryNat_le_one (c : Bool) : carryNat c ≤ 1 := by cases c <;> decide

theorem carryNat_eq_ite_int (c : Bool) : (carryNat c : Int) = if c then 1 else 0 := by cases c <;> rfl

/-! ### ADC (R103) -/

/-- R103: the sum of the decimal mode before it is narrowed: the high digits and the adjusted low digit, with the high
digit adjusted. -/
def adcDecimalSum (a m : Byte) (c : Bool) : Nat :=
  let u := a.toNat / 16 * 16 + m.toNat / 16 * 16 + adcLowDigit a m c
  if 0xA0 ≤ u then u + 0x60 else u

theorem adc_binary {a m : Byte} {p : Status} (h : p.d = false) : adc a m p = adcBinary a m p := if_neg (by simp [h])

theorem adc_decimal {a m : Byte} {p : Status} (h : p.d = true) : adc a m p = adcDecimal a m p := if_pos h

section
variable (a m : Byte) (p : Status)

theorem toNat_adcDecimal : (adcDecimal a m p).1.toNat = adcDecimalSum a m p.c % 256 := by
  simp only [adcDecimal, toNat_and_f0, BitVec.toNat_ofNat]
  rfl

theorem adcDecimal_c : (adcDecimal a m p).2.c = decide (0x100 ≤ adcDecimalSum a m p.c) := by
  simp only [adcDecimal, toNat_and_f0]
  rfl

/-- R103: Z of the decimal mode is that of the binary sum. -/
theorem adcDecimal_z : (adcDecimal a m p).2.z = decide ((a.toNat + m.toNat + carryNat p.c) % 256 = 0) := by
  simp only [adcDecimal]
  rw [Bool.eq_iff_iff, beq_iff_eq, decide_eq_true_iff]
  exact BitVec.toNat_eq

end

/-- Settles O15: ADC is `accumulateWith adc`, whose mode P.D selects. -/
theorem adcAdds : Obligations.AdcAdds := by
  intro s o hwf m c
  obtain ⟨t, hnext, hdone, hregs⟩ := accumulateWith_done (i := .adc o) (op := adc) rfl rfl hwf s
  obtain ⟨ha, hx, hy, hsp, hpc, hp⟩ := hregs
  have hkeeps := adc_flagsOnly s.a m s.p
  refine ⟨t, hnext, hdone, hx, hy, hsp, hpc, hp ▸ hkeeps .i (by decide), hp ▸ hkeeps .d (by decide), ?_, ?_⟩
  · intro hbinary
    rw [ha, hp, adc_binary hbinary]
    exact ⟨BitVec.toNat_ofNat _ _, rfl, rfl, rfl, rfl⟩
  · intro hdecimal
    rw [ha, hp, adc_decimal hdecimal]
    exact ⟨toNat_adcDecimal s.a m s.p, adcDecimal_c s.a m s.p, adcDecimal_z s.a m s.p, bit7_ofInt _, rfl⟩

/-! ### SBC (R104) -/

/-- R104: the decimal difference before it is narrowed: the high digits and the low digit, each with its borrow. -/
def sbcDecimalDifference (a m : Byte) (c : Bool) : Int :=
  let al : Int := (a.toNat % 16 : Int) - (m.toNat % 16 : Int) + carryNat c - 1
  let al' : Int := if al < 0 then (al - 6) % 16 - 16 else al
  let u : Int := (a.toNat / 16 * 16 : Int) - (m.toNat / 16 * 16 : Int) + al'
  if u < 0 then u - 0x60 else u

theorem sbc_fst_binary {a m : Byte} {p : Status} (h : p.d = false) : (sbc a m p).1 = (sbcBinary a m p).1 :=
  if_neg (by simp [h])

theorem sbc_fst_decimal {a m : Byte} {p : Status} (h : p.d = true) : (sbc a m p).1 = sbcDecimalResult a m p.c :=
  if_pos h

section
variable (a m : Byte)

/-- R104: the flags are those of the binary subtraction in both modes. -/
theorem sbc_snd (p : Status) : (sbc a m p).2 = (sbcBinary a m p).2 := rfl

/-- R104: the result and the flags of the binary subtraction, from the difference as a number. -/
theorem sbcBinary_eq {p : Status} {diff : Int} (hdiff : diff = (a.toNat : Int) - m.toNat - (1 - carryNat p.c)) :
    sbcBinary a m p = (BitVec.ofInt 8 diff,
      { p with
        c := decide (0 ≤ diff)
        z := decide (diff % 256 = 0)
        n := decide (128 ≤ diff % 256)
        v := ((a ^^^ m) &&& (a ^^^ BitVec.ofInt 8 diff)).getLsbD 7 }) := by
  have hsum : ((a.toNat + (m ^^^ 0xFF).toNat + carryNat p.c : Nat) : Int) = diff + 256 := by
    have hm := m.isLt
    rw [toNat_xor_ff]
    omega
  have hresult : BitVec.ofNat 8 (a.toNat + (m ^^^ 0xFF).toNat + carryNat p.c) = BitVec.ofInt 8 diff := by
    apply BitVec.eq_of_toNat_eq
    have hnarrow := toNat_ofInt_byte diff
    rw [BitVec.toNat_ofNat]
    omega
  have hcarry : decide (255 < a.toNat + (m ^^^ 0xFF).toNat + carryNat p.c) = decide (0 ≤ diff) :=
    decide_eq_decide.mpr (by omega)
  simp only [sbcBinary, hresult, hcarry, setNZ_ofInt]
  rfl

theorem toNat_sbcDecimalResult (c : Bool) :
    ((sbcDecimalResult a m c).toNat : Int) = sbcDecimalDifference a m c % 256 := by
  simp only [sbcDecimalResult, toNat_ofInt_byte, toNat_and_f0]
  rfl

end

/-- Settles O16: SBC is `accumulateWith sbc`: the flags of `sbcBinary` and the result of the mode. -/
theorem sbcSubtracts : Obligations.SbcSubtracts := by
  intro s o hwf m c diff
  obtain ⟨t, hnext, hdone, hregs⟩ := accumulateWith_done (i := .sbc o) (op := sbc) rfl rfl hwf s
  obtain ⟨ha, hx, hy, hsp, hpc, hp⟩ := hregs
  have hc : (carryNat s.p.c : Int) = c := carryNat_eq_ite_int s.p.c
  have hbin := sbcBinary_eq s.a m (p := s.p) (diff := diff) (by rw [hc])
  refine ⟨t, hnext, hdone, hx, hy, hsp, hpc, ?_⟩
  rw [hp, sbc_snd, hbin]
  refine ⟨rfl, rfl, rfl, rfl, rfl, rfl, fun hbinary => ?_, fun hdecimal => ?_⟩
  · rw [ha, sbc_fst_binary hbinary, hbin, toNat_ofInt_byte]
  · rw [ha, sbc_fst_decimal hdecimal, toNat_sbcDecimalResult, sbcDecimalDifference, hc]

/-! ### Two-digit numbers (D19) -/

/-- The number that a byte's two digits stand for. -/
def digitsValue (b : Byte) : Int := 10 * (b.toNat / 16) + b.toNat % 16

/-- Both digits of the byte are at most 9. -/
def ValidDigits (b : Byte) : Prop := b.toNat / 16 < 10 ∧ b.toNat % 16 < 10

/-- The digits of a number, four bits each; what is beyond the two low digits stands above bit 7. -/
def toDigits (n : Int) : Int := n / 100 * 256 + n % 100 / 10 * 16 + n % 10

/-- A byte that holds the digits of a number stands for it modulo 100. -/
theorem digitsValue_of_toDigits {b : Byte} {n : Int} (h : (b.toNat : Int) = toDigits n % 256) :
    digitsValue b = n % 100 ∧ ValidDigits b := by
  have hbyte : (b.toNat : Int) = n % 100 / 10 * 16 + n % 10 := by
    rw [toDigits] at h
    omega
  rw [digitsValue, ValidDigits]
  omega

section
variable {a m : Byte} (ha : ValidDigits a) (hm : ValidDigits m) (c : Bool)
include ha hm

theorem adcDecimalSum_eq_toDigits :
    (adcDecimalSum a m c : Int) = toDigits (digitsValue a + digitsValue m + carryNat c) := by
  have hc := carryNat_le_one c
  obtain ⟨haHigh, haLow⟩ := ha
  obtain ⟨hmHigh, hmLow⟩ := hm
  simp only [adcDecimalSum, adcLowDigit, toDigits, digitsValue]
  split <;> split <;> omega

theorem sbcDecimalDifference_eq_toDigits :
    sbcDecimalDifference a m c = toDigits (digitsValue a - digitsValue m - (1 - carryNat c)) := by
  have hc := carryNat_le_one c
  obtain ⟨haHigh, haLow⟩ := ha
  obtain ⟨hmHigh, hmLow⟩ := hm
  simp only [sbcDecimalDifference, toDigits, digitsValue]
  split <;> split <;> omega

/-- A sum past 99 is one whose digits reach bit 8. -/
theorem carry_iff_adcDecimalSum :
    0x100 ≤ adcDecimalSum a m c ↔ 100 ≤ digitsValue a + digitsValue m + carryNat c := by
  have hsum := adcDecimalSum_eq_toDigits ha hm c
  have hc := carryNat_le_one c
  obtain ⟨haHigh, haLow⟩ := ha
  obtain ⟨hmHigh, hmLow⟩ := hm
  simp only [toDigits, digitsValue] at hsum ⊢
  omega

/-- The binary and the two-digit difference have the same sign: the high digits are compared first in both. -/
theorem difference_nonneg_iff :
    0 ≤ (a.toNat : Int) - m.toNat - (1 - carryNat c)
      ↔ 0 ≤ digitsValue a - digitsValue m - (1 - carryNat c) := by
  have hc := carryNat_le_one c
  obtain ⟨haHigh, haLow⟩ := ha
  obtain ⟨hmHigh, hmLow⟩ := hm
  simp only [digitsValue]
  omega

end

/-- Settles O18: both results are the digits of the exact sum or difference. -/
theorem decimalModeCountsInTens : Obligations.DecimalModeCountsInTens := by
  intro s o hdecimal m value c haHigh haLow hmHigh hmLow
  have ha : ValidDigits s.a := ⟨haHigh, haLow⟩
  have hm : ValidDigits m := ⟨hmHigh, hmLow⟩
  have hc : c = carryNat s.p.c := (carryNat_eq_ite_int s.p.c).symm
  rw [hc]
  refine ⟨fun t h => ?_, fun t h => ?_⟩
  · have hsum : (t.a.toNat : Int) = toDigits (value s.a + value m + carryNat s.p.c) % 256 := by
      rw [accumulateWith_a h, adc_decimal hdecimal, toNat_adcDecimal, Int.natCast_emod,
        adcDecimalSum_eq_toDigits ha hm]
      rfl
    obtain ⟨hvalue, hhigh, hlow⟩ := digitsValue_of_toDigits hsum
    refine ⟨hvalue, hhigh, hlow, ?_⟩
    rw [accumulateWith_p h, adc_decimal hdecimal, adcDecimal_c, decide_eq_true_iff]
    exact carry_iff_adcDecimalSum ha hm s.p.c
  · have hdifference : (t.a.toNat : Int) = toDigits (value s.a - value m - (1 - carryNat s.p.c)) % 256 := by
      rw [accumulateWith_a h, sbc_fst_decimal hdecimal, toNat_sbcDecimalResult,
        sbcDecimalDifference_eq_toDigits ha hm]
      rfl
    obtain ⟨hvalue, hhigh, hlow⟩ := digitsValue_of_toDigits hdifference
    refine ⟨hvalue, hhigh, hlow, ?_⟩
    rw [accumulateWith_p h, sbc_snd, sbcBinary_eq s.a _ rfl, decide_eq_true_iff]
    exact difference_nonneg_iff ha hm s.p.c

end Sys2Proof.Machine
end

section
/-! PROOFS. AND, ORA, EOR, BIT and the shifts (R115 to R123): one lemma for the logic instructions over the operation on
bits, and one description of the four shifts, from which their forms on A and on memory are read off. -/

namespace Sys2Proof.Machine

open Spec

/-! ### AND, ORA, EOR (R115 to R117) -/

/-- R115 to R117: A becomes the bitwise operation of A and M, and N and Z follow it. -/
theorem bitwise_done {i : Instr} {o : ReadOperand} {g : Byte → Byte → Byte} {f : Bool → Bool → Bool}
    (hbits : ∀ a m k, (g a m).getLsbD k = f (a.getLsbD k) (m.getLsbD k))
    (hreads : i.mnemonic.reads = true) (hmode : i.mode = o.mode) (hwf : i.wf = true) (s : State) :
    ∃ t, accumulateWith i o (fun a m p => (g a m, setNZ p (g a m))) s = .next t ∧ ReadDone i o s t
      ∧ Regs t t.a s.x s.y s.sp s.pc (nz s.p t.a)
      ∧ (∀ k < 8, t.a.getLsbD k = f (s.a.getLsbD k) ((operandByte s o).getLsbD k)) := by
  obtain ⟨t, hnext, hdone, hregs⟩ :=
    accumulateWith_done (op := fun a m p => (g a m, setNZ p (g a m))) hreads hmode hwf s
  have ha : t.a = g s.a (operandByte s o) := hregs.a
  refine ⟨t, hnext, hdone, ?_, fun k _ => ?_⟩
  · rwa [ha, ← setNZ_eq_nz]
  · rw [ha, hbits]

/-- Settles O22: the three operations on bytes are those on bits, bit by bit. -/
theorem logicCombinesBits : Obligations.LogicCombinesBits := by
  intro s o i f hlogic hwf
  simp only [Prod.mk.injEq] at hlogic
  obtain ⟨rfl, rfl⟩ | ⟨rfl, rfl⟩ | ⟨rfl, rfl⟩ := hlogic
  · exact bitwise_done (fun _ _ _ => BitVec.getLsbD_and) rfl rfl hwf s
  · exact bitwise_done (fun _ _ _ => BitVec.getLsbD_or) rfl rfl hwf s
  · exact bitwise_done (fun _ _ _ => BitVec.getLsbD_xor) rfl rfl hwf s

/-! ### BIT (R118) -/

/-- R118: the flags of BIT, with Z as a test on numbers. -/
theorem bitFlags_eq (a m : Byte) (p : Status) :
    bitFlags a m p = { p with n := m.getLsbD 7, v := m.getLsbD 6, z := decide (a.toNat &&& m.toNat = 0) } := by
  rw [bitFlags, beq_zero_eq, BitVec.toNat_and]

/-- Settles O23: BIT is `testWith` of its flags. -/
theorem bitTestsOperand : Obligations.BitTestsOperand := by
  intro s o hwf
  rw [← bitFlags_eq]
  exact testWith_done rfl rfl hwf s

/-! ### The four shifts (R119 to R123) -/

/-- The instruction `i` shifts its operand `o` by `op`: the result and the carry out of `op` are those of the rule, and
of the other flags only N and Z change, which follow the result. -/
structure ShiftsBy (i : Instr) (o : ShiftOperand) (op : Byte → Status → Byte × Status) : Prop where
  exec_eq : ∀ s, exec i s = shiftWith i o op s
  modifies : i.mnemonic.modifies = true
  mode : i.mode = o.mode
  shifted : ∀ v p, Shifted i o v (op v p).1 p.c (op v p).2.c
  flags : ∀ v p, (op v p).2 = { nz p (op v p).1 with c := (op v p).2.c }

/-- R85: N and Z do not depend on a carry that was set before them. -/
theorem setNZ_withCarry (p : Status) (c : Bool) (r : Byte) : setNZ { p with c := c } r = { nz p r with c := c } :=
  setNZ_eq_nz _ r

/-- R123: the carry comes in as bit 7. -/
theorem toNat_rorOp (v : Byte) (p : Status) :
    (rorOp v p).1.toNat = v.toNat / 2 + if p.c then 0x80 else 0 := by
  have hv := v.isLt
  rw [rorOp, BitVec.toNat_ofNat, carryNat]
  split <;> omega

section
variable (o : ShiftOperand)

/-- R120: the double of a byte is narrowed to a byte. -/
theorem shiftsBy_asl : ShiftsBy (.asl o) o aslOp :=
  ⟨fun _ => rfl, rfl, rfl, fun _ _ => .inl ⟨rfl, BitVec.toNat_ofNat _ _, rfl⟩, fun _ p => setNZ_withCarry p _ _⟩

/-- R121: the half of a byte is a byte. -/
theorem shiftsBy_lsr : ShiftsBy (.lsr o) o lsrOp := by
  refine ⟨fun _ => rfl, rfl, rfl, fun v _ => ?_, fun _ p => setNZ_withCarry p _ _⟩
  have hfits : v.toNat / 2 < 256 := by omega
  exact .inr (.inl ⟨rfl, (BitVec.toNat_ofNat _ _).trans (Nat.mod_eq_of_lt hfits), rfl⟩)

/-- R122: the carry comes in as bit 0. -/
theorem shiftsBy_rol : ShiftsBy (.rol o) o rolOp :=
  ⟨fun _ => rfl, rfl, rfl, fun _ _ => .inr (.inr (.inl ⟨rfl, BitVec.toNat_ofNat _ _, rfl⟩)),
    fun _ p => setNZ_withCarry p _ _⟩

theorem shiftsBy_ror : ShiftsBy (.ror o) o rorOp :=
  ⟨fun _ => rfl, rfl, rfl, fun v p => .inr (.inr (.inr ⟨rfl, toNat_rorOp v p, rfl⟩)),
    fun _ p => setNZ_withCarry p _ _⟩

theorem exists_shiftsBy {i : Instr} (h : i ∈ [Instr.asl o, .lsr o, .rol o, .ror o]) : ∃ op, ShiftsBy i o op := by
  simp only [List.mem_cons, List.not_mem_nil, or_false] at h
  obtain rfl | rfl | rfl | rfl := h
  · exact ⟨_, shiftsBy_asl o⟩
  · exact ⟨_, shiftsBy_lsr o⟩
  · exact ⟨_, shiftsBy_rol o⟩
  · exact ⟨_, shiftsBy_ror o⟩

end

/-- R199: a shift of A takes 2 cycles. -/
theorem baseCycles_of_accumulator :
    ∀ i ∈ [Instr.asl .accumulator, .lsr .accumulator, .rol .accumulator, .ror .accumulator], i.baseCycles = 2 := by
  decide

/-- Settles O24: each is `shiftWith` on A. -/
theorem shiftsOfAccumulator : Obligations.ShiftsOfAccumulator := by
  intro s i hmem
  obtain ⟨op, hshift⟩ := exists_shiftsBy .accumulator hmem
  refine ⟨_, (op s.a s.p).2.c, hshift.exec_eq s, ?_, hshift.shifted s.a s.p, ?_⟩
  · exact quietDone_retire (by simp) (baseCycles_of_accumulator i hmem) rfl rfl
  · exact ⟨rfl, rfl, rfl, rfl, rfl, hshift.flags s.a s.p⟩

/-- Settles O25: each is `modifyWith` by its shift. -/
theorem shiftsOfMemory : Obligations.ShiftsOfMemory := by
  intro s m i hmem hwf e old
  obtain ⟨op, hshift⟩ := exists_shiftsBy (.memory m) hmem
  obtain ⟨t, hnext, hretired, hregs, hmemory⟩ := modifyWith_done (op := op) hshift.modifies hshift.mode hwf s
  refine ⟨t, (op old.1 s.p).1, (op old.1 s.p).2.c, (hshift.exec_eq s).trans hnext, hretired,
    hshift.shifted old.1 s.p, ?_, hmemory⟩
  rwa [← hshift.flags]

end Sys2Proof.Machine
end

section
/-! PROOFS. Control transfer, BRK and NOP (R82, R124 to R138): words on the stack, the one form of the branches, what an
exception's entry leaves, and the returns as the inverses of the entries. -/

namespace Sys2Proof

namespace Spec

open Machine

/-- The registers of an instruction are those it left before it was recorded (R84). -/
theorem Regs.retire {t : State} {a x y sp : Byte} {pc : Word} {p : Status} (h : Regs t a x y sp pc p) (i : Instr)
    (k : Nat) : Regs (t.retire i k) a x y sp pc p :=
  ⟨h.a, h.x, h.y, h.sp, h.pc, h.p⟩

theorem Regs.setPc {t : State} {a x y sp : Byte} {pc : Word} {p : Status} (h : Regs t a x y sp pc p) (v : Word) :
    Regs (t.setPc v) a x y sp v p :=
  ⟨h.a, h.x, h.y, h.sp, rfl, h.p⟩

/-- Whether a hook covers an address depends on the hook tables only. -/
theorem Plain.of_hooks {s t : State} {a : Word} (h : Plain s a) (hhooks : t.hooks = s.hooks) : Plain t a :=
  ⟨hhooks ▸ h.1, hhooks ▸ h.2⟩

theorem Entered.retire {ret : Nat} {image : Byte} {vector : Word} {s t : State} (h : Entered ret image vector s t)
    (i : Instr) (k : Nat) : Entered ret image vector s (t.retire i k) :=
  ⟨h.1.retire i k, h.2⟩

end Spec

namespace Machine

open Spec

@[simp] theorem State.setPc_rest (s : State) (v : Word) : (s.setPc v).rest = s.rest := rfl

@[simp] theorem State.pushWord_rest (s : State) (w : Word) : (s.pushWord w).rest = s.rest := by
  simp [State.pushWord]

@[simp] theorem State.pullWord_rest (s : State) : s.pullWord.2.rest = s.rest := by simp [State.pullWord]

@[simp] theorem State.takeException_rest (s : State) (ret : Word) (image : Byte) (vector : Word) :
    (s.takeException ret image vector).rest = s.rest := by simp [State.takeException, State.read16]

@[simp] theorem State.returnFromException_rest (s : State) : s.returnFromException.rest = s.rest := by
  simp [State.returnFromException]

@[simp] theorem jumpTarget_rest (s : State) (j : JumpOperand) : (jumpTarget s j).2.rest = s.rest := by
  rw [jumpTarget_st, State.withDev_rest]

/-! ### Stack slots (R14) -/

theorem stackSlot_one (s : State) : stackSlot s 1 = stackAddr (s.sp - 1) := stackSlot_eq s (by decide)

theorem stackSlot_two (s : State) : stackSlot s 2 = stackAddr (s.sp - 1 - 1) := by
  rw [stackSlot_eq s (by decide), BitVec.sub_sub]
  rfl

theorem stackSlot_ne (s : State) {j k : Nat} (hj : j < 256) (hk : k < 256) (h : j ≠ k) :
    stackSlot s j ≠ stackSlot s k := by
  rw [ne_eq, BitVec.toNat_eq, stackSlot, stackSlot, BitVec.toNat_ofNat, BitVec.toNat_ofNat]
  omega

theorem ne_stackSlot_of_le (s : State) {c : Word} {k : Nat} (h : 0x200 ≤ c.toNat) : c ≠ stackSlot s k := by
  rw [ne_eq, BitVec.toNat_eq, stackSlot, BitVec.toNat_ofNat]
  omega

/-- R14: after n bytes are pushed, the byte k places above SP is the one n - k places below the SP before. -/
theorem stackAbove_eq_stackSlot {s t : State} {n k : Nat} (hk : k ≤ n) (hn : n ≤ 256)
    (hsp : t.sp = BitVec.ofNat 8 (s.sp.toNat + (256 - n))) : stackAbove t k = stackSlot s (n - k) := by
  rw [stackAbove, stackSlot, hsp, BitVec.toNat_ofNat]
  congr 2
  omega

/-! ### Words on the stack (R41) -/

/-- R41: a word is pushed as the two bytes of its number, the high one first. -/
theorem State.pushWord_eq {w : Word} {n : Nat} (h : w.toNat = n) (s : State) :
    s.pushWord w = (s.push (BitVec.ofNat 8 (n / 256))).push (BitVec.ofNat 8 n) := by
  rw [State.pushWord, hi_eq_ofNat, lo_eq_ofNat, h]

theorem pushWord_regs (s : State) (w : Word) :
    Regs (s.pushWord w) s.a s.x s.y (BitVec.ofNat 8 (s.sp.toNat + 254)) s.pc s.p := by
  have hsp : s.sp - 1 - 1 = BitVec.ofNat 8 (s.sp.toNat + 254) := by bv_omega
  exact ⟨s.pushWord_a w, s.pushWord_x w, s.pushWord_y w, (s.pushWord_sp w).trans hsp, s.pushWord_pc w, s.pushWord_p w⟩

theorem pullWord_regs (s : State) :
    Regs s.pullWord.2 s.a s.x s.y (BitVec.ofNat 8 (s.sp.toNat + 2)) s.pc s.p := by
  have hsp : s.sp + 1 + 1 = BitVec.ofNat 8 (s.sp.toNat + 2) := by bv_omega
  exact ⟨s.pullWord_a, s.pullWord_x, s.pullWord_y, s.pullWord_sp.trans hsp, s.pullWord_pc, s.pullWord_p⟩

/-- R41: pushing a word writes the two stack bytes only. -/
theorem pushWord_ramSameBut (s : State) (w : Word) : RamSameBut [stackSlot s 0, stackSlot s 1] s (s.pushWord w) := by
  intro c hc
  rw [List.mem_cons, not_or, List.mem_singleton, stackSlot_zero, stackSlot_one] at hc
  exact s.pushWord_ramByte_other w hc.1 hc.2

/-- R41: a pushed word on plain RAM: the high byte at SP, the low one below it. -/
theorem pushWord_stored {s : State} (w : Word) (hram : s.ram.wf ramSize = true) (h0 : Plain s (stackSlot s 0))
    (h1 : Plain s (stackSlot s 1)) :
    ((s.pushWord w).ramByte (stackSlot s 0)).toNat = w.toNat / 256
      ∧ ((s.pushWord w).ramByte (stackSlot s 1)).toNat = w.toNat % 256 := by
  rw [stackSlot_zero] at h0 ⊢
  rw [stackSlot_one] at h1 ⊢
  rw [State.pushWord_ramByte_hi w h0.2 hram, State.pushWord_ramByte_lo w h1.2 hram]
  exact ⟨toNat_hi w, toNat_lo w⟩

/-- R40: a pull from plain RAM, after k others. -/
theorem pull_of_plain {s u : State} {k : Nat} (hsp : u.sp = s.sp + BitVec.ofNat 8 k) (hram : u.ram = s.ram)
    (hhooks : u.hooks = s.hooks) (hplain : Plain s (stackAbove s (k + 1))) :
    u.pull.1 = s.ramByte (stackAbove s (k + 1)) ∧ u.pull.2.dev = u.dev := by
  have haddr : stackAbove s (k + 1) = stackAddr (u.sp + 1) := by
    rw [stackAbove_eq, BitVec.ofNat_add, ← BitVec.add_assoc, ← hsp]
    rfl
  rw [haddr] at hplain ⊢
  rw [State.pull_plain (hplain.of_hooks hhooks).1]
  exact ⟨congrArg (Mem.read · _) hram, rfl⟩

/-! ### JMP, JSR, RTS and NOP -/

/-- Settles O26: the pointer's second address is `cat_hi_lo_add_one`'s. -/
theorem jmpGoesToTarget : Obligations.JmpGoesToTarget := by
  intro s w
  refine ⟨⟨_, rfl, quietDone_retire (s.setPc_rest w) rfl rfl rfl, ⟨rfl, rfl, rfl, rfl, rfl, rfl⟩⟩, ?_⟩
  rw [← cat_hi_lo_add_one]
  exact ⟨_, rfl, retired_retire (by simp) rfl, ⟨rfl, rfl, rfl, rfl, cat_eq_ofNat _ _, rfl⟩, fun _ _ => rfl, rfl⟩

/-- Settles O27: the return address is pushed as a word. -/
theorem jsrPushesReturn : Obligations.JsrPushesReturn := by
  intro s w ret
  have hret : (s.pc - 1).toNat = ret := by rw [BitVec.toNat_sub, Nat.add_comm]; rfl
  refine ⟨_, rfl, retired_retire (by simp) rfl, ((pushWord_regs s _).setPc w).retire _ _, ?_, ?_, ?_⟩
  · exact fun c hc => by simpa using pushWord_ramSameBut s (s.pc - 1) c hc
  · rw [← State.pushWord_eq hret]
    exact ⟨rfl, rfl⟩
  · intro hram h0 h1
    rw [← hret]
    simpa using pushWord_stored (s.pc - 1) hram h0 h1

/-- Settles O28: PC is the word pulled, plus 1. -/
theorem rtsPullsReturn : Obligations.RtsPullsReturn := by
  intro s l h
  have hpc : cat h.1 l.1 + 1 = BitVec.ofNat 16 (h.1.toNat * 256 + l.1.toNat + 1) := by
    rw [cat_eq_ofNat, BitVec.ofNat_add _ 1]
    rfl
  refine ⟨_, rfl, retired_retire (by simp) rfl, hpc ▸ ((pullWord_regs s).setPc _).retire _ _,
    fun c _ => s.pullWord_ramByte c, rfl, ?_⟩
  intro h1 h2
  obtain ⟨hl, hldev⟩ := pull_of_plain (k := 0) (u := s) (by simp) rfl rfl h1
  obtain ⟨hh, hhdev⟩ := pull_of_plain (k := 1) (u := l.2) rfl rfl rfl h2
  exact ⟨hl, hh, hhdev.trans hldev⟩

/-- Settles O32: NOP only retires. -/
theorem nopDoesNothing : Obligations.NopDoesNothing := fun _ =>
  ⟨_, rfl, quietDone_retire rfl rfl rfl rfl, ⟨rfl, rfl, rfl, rfl, rfl, rfl⟩⟩

/-! ### The branches (R128 to R136) -/

/-- R82: the signed offset is added modulo 65536. -/
theorem branchTarget_eq_ofInt (next : Word) (off : Byte) :
    branchTarget next off = BitVec.ofInt 16 ((next.toNat : Int) + off.toInt) := by
  rw [BitVec.ofInt_add, BitVec.ofInt_natCast, BitVec.ofNat_toNat, BitVec.setWidth_eq]
  rfl

/-- R128: a taken branch takes 1 cycle more, or 2 to another page. -/
theorem branchPenalty_taken (next target : Word) :
    2 + branchPenalty true next target = if target.toNat / 256 = next.toNat / 256 then 3 else 4 := by
  have hpage : (hi target != hi next) = true ↔ ¬target.toNat / 256 = next.toNat / 256 := hi_ne_hi_iff
  rw [branchPenalty, if_pos rfl]
  by_cases hsame : target.toNat / 256 = next.toNat / 256 <;> simp [hpage, hsame]

/-- R129 to R136: each branch is `branchWith`, taken when its flag has the value it asks for. -/
theorem exec_branch {s : State} {off : Byte} {i : Instr} {flag wanted : Bool}
    (h : (i, flag, wanted) ∈ [(Instr.bpl off, s.p.n, false), (.bmi off, s.p.n, true), (.bvc off, s.p.v, false),
      (.bvs off, s.p.v, true), (.bcc off, s.p.c, false), (.bcs off, s.p.c, true), (.bne off, s.p.z, false),
      (.beq off, s.p.z, true)]) :
    ∃ taken, exec i s = branchWith i off taken s ∧ i.baseCycles = 2 ∧ (taken = true ↔ flag = wanted) := by
  simp only [List.mem_cons, Prod.mk.injEq, List.not_mem_nil, or_false] at h
  obtain ⟨rfl, rfl, rfl⟩ | ⟨rfl, rfl, rfl⟩ | ⟨rfl, rfl, rfl⟩ | ⟨rfl, rfl, rfl⟩ | ⟨rfl, rfl, rfl⟩ | ⟨rfl, rfl, rfl⟩
    | ⟨rfl, rfl, rfl⟩ | ⟨rfl, rfl, rfl⟩ := h <;> exact ⟨_, rfl, rfl, by simp⟩

/-- Settles O30: the two cases of `branchWith`. -/
theorem branchesFollowFlag : Obligations.BranchesFollowFlag := by
  intro s off i flag wanted hmem target
  obtain ⟨taken, hexec, hbase, htaken⟩ := exec_branch hmem
  have htarget : branchTarget s.pc off = target := branchTarget_eq_ofInt s.pc off
  rw [ne_eq, ← htaken, ← htarget, hexec]
  constructor
  · rintro rfl
    have hcycles := (congrArg (· + _) hbase).trans (branchPenalty_taken s.pc (branchTarget s.pc off))
    exact ⟨_, rfl, quietDone_retire (s.setPc_rest _) hcycles rfl rfl, ⟨rfl, rfl, rfl, rfl, rfl, rfl⟩⟩
  · intro hnot
    obtain rfl : taken = false := Bool.eq_false_iff.mpr hnot
    exact ⟨_, rfl, quietDone_retire rfl hbase rfl rfl, ⟨rfl, rfl, rfl, rfl, rfl, rfl⟩⟩

/-! ### BRK (R137, R154) -/

/-- R137, R154: an entry, by its parts: the pushes, the read of the vector, then I and PC. -/
theorem State.takeException_eq (s : State) (ret : Word) (image : Byte) (vector : Word) :
    let v := ((s.pushWord ret).push image).read16 vector
    s.takeException ret image vector = (v.2.setP { s.p with i := true }).setPc v.1 := rfl

/-- R9: a 16-bit read of plain RAM. -/
theorem State.read16_plain {s : State} {a : Word} (h : Plain s a) (h' : Plain s (a + 1)) :
    s.read16 a = (cat (s.ramByte (a + 1)) (s.ramByte a), s) := by
  rw [State.read16, State.memRead_plain h.1, State.memRead_plain h'.1]

/-- R40: a push to plain RAM has no effect on devices. -/
theorem push_dev_plain {s : State} (v : Byte) (h : hookAt s.hooks.writers (stackAddr s.sp).toNat = none) :
    (s.push v).dev = s.dev := by
  rw [State.push, State.memWrite_plain v h]
  rfl

section
variable (s : State) (ret : Word) (image : Byte)

/-- An entry's pushes write the three stack bytes only. -/
theorem pushWord_push_ramSameBut :
    RamSameBut [stackSlot s 0, stackSlot s 1, stackSlot s 2] s ((s.pushWord ret).push image) := by
  intro c hc
  simp only [List.mem_cons, List.not_mem_nil, or_false, not_or] at hc
  obtain ⟨h0, h1, h2⟩ := hc
  rw [stackSlot_two, ← State.pushWord_sp s ret] at h2
  rw [State.push_ramByte_other _ image h2]
  exact pushWord_ramSameBut s ret c (by simp [h0, h1])

variable {s}

/-- An entry's pushes on plain RAM: the word's two bytes, then the image. -/
theorem pushWord_push_stored (hram : s.ram.wf ramSize = true) (h0 : Plain s (stackSlot s 0))
    (h1 : Plain s (stackSlot s 1)) (h2 : Plain s (stackSlot s 2)) :
    let u := (s.pushWord ret).push image
    (u.ramByte (stackSlot s 0)).toNat = ret.toNat / 256 ∧ (u.ramByte (stackSlot s 1)).toNat = ret.toNat % 256
      ∧ u.ramByte (stackSlot s 2) = image := by
  intro u
  have hslot : stackSlot s 2 = stackAddr (s.pushWord ret).sp := by rw [State.pushWord_sp, stackSlot_two]
  have hother {k : Nat} (hk : k < 2) : u.ramByte (stackSlot s k) = (s.pushWord ret).ramByte (stackSlot s k) :=
    State.push_ramByte_other _ image (hslot ▸ stackSlot_ne s (by omega) (by decide) (by omega))
  obtain ⟨hhi, hlo⟩ := pushWord_stored ret hram h0 h1
  rw [hother (by decide), hother (by decide), hhi, hlo]
  rw [hslot] at h2 ⊢
  exact ⟨rfl, rfl, State.push_ramByte_same image h2.2 (State.push_ram_wf _ (State.push_ram_wf _ hram))⟩

/-- An entry's pushes to plain RAM have no effect on devices. -/
theorem pushWord_push_dev (h0 : Plain s (stackSlot s 0)) (h1 : Plain s (stackSlot s 1)) (h2 : Plain s (stackSlot s 2)) :
    ((s.pushWord ret).push image).dev = s.dev := by
  rw [stackSlot_zero] at h0
  rw [stackSlot_one] at h1
  rw [stackSlot_two] at h2
  calc ((s.pushWord ret).push image).dev
      = (s.pushWord ret).dev := push_dev_plain image (by simpa [State.pushWord_sp] using h2.2)
    _ = (s.push (hi ret)).dev := push_dev_plain (lo ret) (by simpa using h1.2)
    _ = s.dev := push_dev_plain (hi ret) h0.2

variable (s)

/-- R137, R154: what an entry leaves, when its vector lies above the stack's page, so that the pushes do not reach it. -/
theorem takeException_entered {vector : Word} (hv : 0x200 ≤ vector.toNat) (hv' : 0x200 ≤ (vector + 1).toNat) :
    Entered ret.toNat image vector s (s.takeException ret image vector) := by
  have hsp : s.sp - 1 - 1 - 1 = BitVec.ofNat 8 (s.sp.toNat + 253) := by bv_omega
  have hbytes (c : Word) : (s.takeException ret image vector).ramByte c = ((s.pushWord ret).push image).ramByte c := by
    rw [State.takeException_eq]
    simp
  have hpushes := pushWord_push_ramSameBut s ret image
  have hvector {c : Word} (hc : 0x200 ≤ c.toNat) : ((s.pushWord ret).push image).ramByte c = s.ramByte c :=
    hpushes c (by simp [ne_stackSlot_of_le s hc])
  rw [Entered, ← State.pushWord_eq rfl]
  refine ⟨⟨by simp, by simp, by simp, (s.takeException_sp ..).trans hsp, cat_eq_ofNat _ _, s.takeException_p ..⟩,
    fun c hc => (hbytes c).trans (hpushes c hc), by simp [State.takeException_eq], rfl, fun hram h0 h1 h2 => ?_⟩
  obtain ⟨hhi, hlo, himage⟩ := pushWord_push_stored ret image hram h0 h1 h2
  rw [hbytes, hbytes, hbytes]
  refine ⟨hhi, hlo, himage, fun hlow hhigh => ?_⟩
  have hhooks : ((s.pushWord ret).push image).hooks = s.hooks := by simp
  rw [State.takeException_eq, State.read16_plain (hlow.of_hooks hhooks) (hhigh.of_hooks hhooks), hvector hv,
    hvector hv']
  exact ⟨toNat_cat _ _, pushWord_push_dev ret image h0 h1 h2⟩

end

/-- Settles O31: BRK is an entry with PC + 1 and the software image. -/
theorem brkEnters : Obligations.BrkEnters := by
  intro s
  have hret : (s.pc + 1).toNat = (s.pc.toNat + 1) % 65536 := BitVec.toNat_add _ _
  rw [← hret]
  exact ⟨_, rfl, retired_retire (by simp) rfl,
    (takeException_entered s _ (pushImageSW s.p) (by decide) (by decide)).retire .brk 0⟩

/-! ### RTI (R127, R147) -/

/-- Settles O29: the flags and PC are what three pulls give. -/
theorem rtiRestores : Obligations.RtiRestores := by
  intro s f l h
  have hsp : s.sp + 1 + 1 + 1 = BitVec.ofNat 8 (s.sp.toNat + 3) := by bv_omega
  have hretired : Retired .rti 6 s (s.returnFromException.retire .rti 0) := retired_retire (by simp) rfl
  have hp : s.returnFromException.p = statusOfByte f.1 := by simp [State.returnFromException, f]
  refine ⟨_, rfl, hretired, ?_, fun c _ => s.returnFromException_ramByte c, rfl, ?_, ?_⟩
  · exact Regs.retire ⟨s.returnFromException_a, s.returnFromException_x, s.returnFromException_y,
      s.returnFromException_sp.trans hsp, cat_eq_ofNat _ _, hp⟩ _ _
  · exact (poll_of_retired hretired).trans (congrArg (polled s ·.i) hp)
  · intro h1 h2 h3
    obtain ⟨hf, hfdev⟩ := pull_of_plain (k := 0) (u := s) (by simp) rfl rfl h1
    obtain ⟨hl, hldev⟩ := pull_of_plain (k := 1) (u := f.2.setP (statusOfByte f.1)) rfl rfl rfl h2
    obtain ⟨hh, hhdev⟩ := pull_of_plain (k := 2) (u := l.2) (BitVec.add_assoc _ _ _) rfl rfl h3
    exact ⟨hf, hl, hh, hhdev.trans (hldev.trans hfdev)⟩

/-! ### The returns as inverses of the entries -/

/-- R126: RTS, where the bytes above SP are plain RAM. -/
theorem rts_of_plain {s : State} (h1 : Plain s (stackAbove s 1)) (h2 : Plain s (stackAbove s 2)) :
    ∃ t, exec .rts s = .next t ∧ Regs t s.a s.x s.y (BitVec.ofNat 8 (s.sp.toNat + 2))
      (BitVec.ofNat 16 ((s.ramByte (stackAbove s 2)).toNat * 256 + (s.ramByte (stackAbove s 1)).toNat + 1)) s.p := by
  obtain ⟨t, hrts, -, hregs, -, -, hpulled⟩ := rtsPullsReturn s
  obtain ⟨hlow, hhigh, -⟩ := hpulled h1 h2
  rw [hhigh, hlow] at hregs
  exact ⟨t, hrts, hregs⟩

/-- R127: RTI, where the bytes above SP are plain RAM. -/
theorem rti_of_plain {s : State} (h1 : Plain s (stackAbove s 1)) (h2 : Plain s (stackAbove s 2))
    (h3 : Plain s (stackAbove s 3)) :
    ∃ t, exec .rti s = .next t ∧ Regs t s.a s.x s.y (BitVec.ofNat 8 (s.sp.toNat + 3))
      (BitVec.ofNat 16 ((s.ramByte (stackAbove s 3)).toNat * 256 + (s.ramByte (stackAbove s 2)).toNat))
      (statusOfByte (s.ramByte (stackAbove s 1))) := by
  obtain ⟨t, hrti, -, hregs, -, -, -, hpulled⟩ := rtiRestores s
  obtain ⟨hflags, hlow, hhigh, -⟩ := hpulled h1 h2 h3
  rw [hhigh, hlow, hflags] at hregs
  exact ⟨t, hrti, hregs⟩

section
variable {s : State} (hram : s.ram.wf ramSize = true) (h0 : Plain s (stackSlot s 0)) (h1 : Plain s (stackSlot s 1))
include hram h0 h1

/-- RTS undoes JSR: the bytes above SP are the two stack slots that JSR wrote. -/
theorem rts_after_jsr (w : Word) :
    ∃ u t, exec (.jsr w) s = .next u ∧ exec .rts u = .next t ∧ Regs t s.a s.x s.y s.sp s.pc s.p := by
  obtain ⟨u, hjsr, hretired, hregs, -, -, hstored⟩ := jsrPushesReturn s w
  obtain ⟨hhigh, hlow⟩ := hstored hram h0 h1
  have hslot1 : stackAbove u 1 = stackSlot s 1 := stackAbove_eq_stackSlot (n := 2) (by decide) (by decide) hregs.sp
  have hslot2 : stackAbove u 2 = stackSlot s 0 := stackAbove_eq_stackSlot (n := 2) (by decide) (by decide) hregs.sp
  obtain ⟨t, hrts, htregs⟩ := rts_of_plain (s := u) (hslot1 ▸ h1.of_hooks hretired.hooks)
    (hslot2 ▸ h0.of_hooks hretired.hooks)
  have hsp : BitVec.ofNat 8 ((BitVec.ofNat 8 (s.sp.toNat + 254)).toNat + 2) = s.sp := by bv_omega
  have hpc : BitVec.ofNat 16 ((s.pc.toNat + 65535) % 65536 + 1) = s.pc := by bv_omega
  rw [hslot1, hslot2, hhigh, hlow, Nat.div_add_mod', hpc, hregs.a, hregs.x, hregs.y, hregs.sp, hsp, hregs.p] at htregs
  exact ⟨u, t, hjsr, hrts, htregs⟩

/-- RTI undoes BRK: the bytes above SP are the three stack slots that BRK wrote. -/
theorem rti_after_brk (h2 : Plain s (stackSlot s 2)) :
    ∃ u t, exec .brk s = .next u ∧ exec .rti u = .next t ∧ Regs t s.a s.x s.y s.sp (s.pc + 1) s.p := by
  obtain ⟨u, hbrk, hretired, hregs, -, -, -, hstored⟩ := brkEnters s
  obtain ⟨hhigh, hlow, himage, -⟩ := hstored hram h0 h1 h2
  have hslot1 : stackAbove u 1 = stackSlot s 2 := stackAbove_eq_stackSlot (n := 3) (by decide) (by decide) hregs.sp
  have hslot2 : stackAbove u 2 = stackSlot s 1 := stackAbove_eq_stackSlot (n := 3) (by decide) (by decide) hregs.sp
  have hslot3 : stackAbove u 3 = stackSlot s 0 := stackAbove_eq_stackSlot (n := 3) (by decide) (by decide) hregs.sp
  obtain ⟨t, hrti, htregs⟩ := rti_of_plain (s := u) (hslot1 ▸ h2.of_hooks hretired.hooks)
    (hslot2 ▸ h1.of_hooks hretired.hooks) (hslot3 ▸ h0.of_hooks hretired.hooks)
  have hsp : BitVec.ofNat 8 ((BitVec.ofNat 8 (s.sp.toNat + 253)).toNat + 3) = s.sp := by bv_omega
  have hpc : BitVec.ofNat 16 ((s.pc.toNat + 1) % 65536) = s.pc + 1 := by bv_omega
  have hp : statusOfByte (s.p.toByte ||| 0x30) = s.p := statusOfByte_pushImageSW s.p
  rw [hslot1, hslot2, hslot3, hhigh, hlow, himage, Nat.div_add_mod', hpc, hregs.a, hregs.x, hregs.y, hregs.sp, hsp,
    hp] at htregs
  exact ⟨u, t, hbrk, hrti, htregs⟩

end

/-- Settles O35: the two returns, each after its entry. -/
theorem returnsUndoEntries : Obligations.ReturnsUndoEntries := fun _ w hram h0 h1 h2 =>
  ⟨rts_after_jsr hram h0 h1 w, rti_after_brk hram h0 h1 h2⟩

end Machine

end Sys2Proof
end

section
/-! PROOFS. The flag instructions CLC, SEC, CLI, SEI, CLD, SED and CLV (R139 to R145). -/

namespace Sys2Proof.Machine

open Spec

/-- R139 to R145: each flag instruction puts P with its one flag written and completes in its 2 cycles. -/
theorem exec_flag {s : State} {i : Instr} {p : Status}
    (h : (i, p) ∈ [(Instr.clc, { s.p with c := false }), (.sec, { s.p with c := true }), (.cli, { s.p with i := false }),
      (.sei, { s.p with i := true }), (.cld, { s.p with d := false }), (.sed, { s.p with d := true }),
      (.clv, { s.p with v := false })]) :
    exec i s = .next ((s.setP p).retire i 0) ∧ i.baseCycles = 2 := by
  simp only [List.mem_cons, Prod.mk.injEq, List.not_mem_nil, or_false] at h
  obtain ⟨rfl, rfl⟩ | ⟨rfl, rfl⟩ | ⟨rfl, rfl⟩ | ⟨rfl, rfl⟩ | ⟨rfl, rfl⟩ | ⟨rfl, rfl⟩ | ⟨rfl, rfl⟩ := h <;>
    exact ⟨rfl, rfl⟩

/-- Settles O33: each flag instruction only puts P, and the poll after it reads the I of that P. -/
theorem flagInstructionsWriteOneFlag : Obligations.FlagInstructionsWriteOneFlag := by
  intro s i p hmem
  obtain ⟨hexec, hcycles⟩ := exec_flag hmem
  have hdone : QuietDone i 2 s ((s.setP p).retire i 0) := quietDone_retire (s.setP_rest p) hcycles rfl rfl
  exact ⟨_, hexec, hdone, ⟨rfl, rfl, rfl, rfl, rfl, rfl⟩, poll_of_retired hdone.retired⟩

end Sys2Proof.Machine
end

section
/-! PROOFS. The unknown opcode under both policies (R150), the interrupt entries (R147, R153 to R156), and the edge that
sets the NMI latch (R27, R148). -/

namespace Sys2Proof.Machine

open Spec

/-! ### The unknown opcode -/

theorem exec_undefined_stop {s : State} (op : Byte) (h : s.cfg.unknownOpcodePolicy = .stop) :
    exec (.undefined op) s = .next (s.stopOnUnknown op) := by
  simp only [exec, execUndefined, h]

theorem exec_undefined_skip {s : State} (op : Byte) (h : s.cfg.unknownOpcodePolicy = .skipAsNop) :
    exec (.undefined op) s = .next (s.skipUnknown op) := by
  simp only [exec, execUndefined, h]

/-- Settles O34: the policy chooses between `stopOnUnknown` and `skipUnknown`, which make the same record. -/
theorem unknownOpcodePolicy : Obligations.UnknownOpcodePolicy := by
  intro s op start hpc
  have hback : s.pc - 1 = start := by rw [hpc, BitVec.add_sub_cancel]
  refine ⟨fun hpolicy => ⟨_, exec_undefined_stop op hpolicy, ?_⟩,
    fun hpolicy => ⟨_, exec_undefined_skip op hpolicy, ?_⟩⟩
  · exact ⟨⟨rfl, rfl, rfl, rfl, hback, rfl⟩, fun _ _ => rfl, rfl, rfl,
      congrArg (fun w => RunStatus.stopped (.unknownOpcode op w)) hback, rfl, rfl, rfl, rfl, rfl⟩
  · exact ⟨⟨rfl, rfl, rfl, rfl, hpc, rfl⟩, fun _ _ => rfl, rfl, rfl, rfl, rfl, rfl, rfl, rfl, rfl⟩

/-! ### Interrupt entry -/

/-- R154, R155: the bookkeeping of an entry, whatever becomes of the NMI latch before it. -/
theorem interrupt_interrupted (s : State) (pending : Bool) (kind : StepKind) (vector : Word) :
    Interrupted kind s ({ s with nmiPending := pending }.interrupt kind vector) := by
  constructor <;> simp [State.interrupt]

/-- R154: what an entry pushes and where it goes on, when its vector lies above the stack's page. -/
theorem interrupt_entered (s : State) (kind : StepKind) {vector : Word} (hv : 0x200 ≤ vector.toNat)
    (hv' : 0x200 ≤ (vector + 1).toNat) :
    Entered s.pc.toNat s.p.toByte vector s (s.interrupt kind vector) := by
  obtain ⟨hregs, hmemory⟩ := takeException_entered s s.pc (pushImageHW s.p) hv hv'
  rw [← pushImageHW_eq]
  exact ⟨⟨hregs.a, hregs.x, hregs.y, hregs.sp, hregs.pc, hregs.p⟩, hmemory⟩

/-- Settles O37: the poll chooses the entry; NMI entry clears the latch first, which no other part of an entry reads. -/
theorem interruptEntries : Obligations.InterruptEntries := by
  refine fun s => ⟨fun hnmi => ?_, fun hnmi hirq hi => ?_⟩
  · have hcpu : cpuStep s = .next s.nmiEntry := by simp [cpuStep, poll, hnmi]
    exact ⟨_, hcpu, by simp [State.nmiEntry, State.interrupt], interrupt_interrupted s false _ _,
      interrupt_entered { s with nmiPending := false } .nmiEntry (by decide) (by decide)⟩
  · have hcpu : cpuStep s = .next s.irqEntry := by simp [cpuStep, poll, hnmi, hirq, hi]
    exact ⟨_, hcpu, by simp [State.irqEntry, State.interrupt, hnmi], interrupt_interrupted s s.nmiPending _ _,
      interrupt_entered s .irqEntry (by decide) (by decide)⟩

/-! ### The NMI latch -/

/-- Settles O38: the latch is the old one, or the edge. -/
theorem nmiIsEdgeTriggered : Obligations.NmiIsEdgeTriggered := by
  refine fun s level => ⟨rfl, ?_⟩
  simp [State.setNmiLine, and_comm]

end Sys2Proof.Machine
end

section
/-! PROOFS. What follows the CPU step (R161 to R164): the fields that the catch-up changes, the evaluators, and the stop
conditions in their order. -/

namespace Sys2Proof.Machine

open Spec

/-! ### The catch-up -/

/-- R164, R151: the catch-up changes the cycle count, the devices, the two lines and the NMI latch only. -/
theorem State.catchUp_eq (s : State) :
    s.catchUp = { s with
      totalCycles := s.catchUp.totalCycles, dev := s.catchUp.dev, irqLine := s.catchUp.irqLine
      nmiLine := s.catchUp.nmiLine, nmiPending := s.catchUp.nmiPending } := by
  unfold State.catchUp
  split <;> rfl

/-! ### Breakpoints and evaluators (R162, R163) -/

/-- R163: the first breakpoint at PC says whether it is hit. -/
theorem breakpointHit_of_enabled {s : State} {before after : List (Word × Bool)}
    (h : s.cfg.breakpoints = before ++ (s.pc, true) :: after) (hbefore : ∀ b ∈ before, b.1 ≠ s.pc) :
    breakpointHit s = true := by
  have hfirst : s.cfg.breakpoints.find? (fun b => b.1 == s.pc) = some (s.pc, true) :=
    List.find?_eq_some_iff_append.mpr ⟨by simp, before, after, h, by simpa using hbefore⟩
  simp [breakpointHit, hfirst]

theorem breakpointHit_of_disabled {s : State} (h : ∀ b ∈ s.cfg.breakpoints, b.1 = s.pc → b.2 = false) :
    breakpointHit s = false := by
  unfold breakpointHit
  cases hfirst : s.cfg.breakpoints.find? (fun b => b.1 == s.pc) with
  | none => rfl
  | some b => exact h b (List.mem_of_find?_eq_some hfirst) (by simpa using List.find?_some hfirst)

/-- Settles O59: the breakpoints are asked first, then the list in order. -/
theorem breakpointTriggers : Obligations.BreakpointTriggers := by
  refine fun s => ⟨fun before after h hbefore => ?_,
    fun h => ⟨fun before e after hlist hbefore he => ?_, fun hnone => ?_⟩⟩
  · simp [evaluate, breakpointHit_of_enabled h hbefore]
  · have hfirst : s.cfg.evaluators.find? (fun e => predHolds s e.pred) = some e :=
      List.find?_eq_some_iff_append.mpr ⟨he, before, after, hlist, by simpa using hbefore⟩
    simp [evaluate, breakpointHit_of_disabled h, hfirst]
  · have hnone' : s.cfg.evaluators.find? (fun e => predHolds s e.pred) = none :=
      List.find?_eq_none.mpr (by simpa using hnone)
    simp [evaluate, breakpointHit_of_disabled h, hnone']

/-! ### What the CPU step executed (R146, R161) -/

/-- R84: every instruction but an undefined opcode ends by retiring, and leaves the rest of the state alone before it. -/
theorem exec_retires (i : Instr) (s : State) (h : ∀ op, i ≠ .undefined op) :
    ∃ (u : State) (k : Nat), exec i s = .next (u.retire i k) ∧ u.rest = s.rest := by
  cases i
  case undefined op => exact absurd rfl (h op)
  case asl o | lsr o | rol o | ror o => cases o <;> exact ⟨_, _, rfl, by simp⟩
  case bpl off | bmi off | bvc off | bvs off | bcc off | bcs off | bne off | beq off =>
    refine ⟨_, _, rfl, ?_⟩
    split
    · exact s.setPc_rest _
    · rfl
  all_goals exact ⟨_, _, rfl, by simp⟩

theorem State.fetch_rest (s : State) : s.fetch.2.rest = s.rest := rfl

theorem fetchInstr_rest (s : State) : (fetchInstr s).st.rest = s.rest := by
  dsimp only [fetchInstr]
  split <;> simp only [State.fetch_rest]

/-- R67: a fetched instruction is the one of an opcode and two bytes. -/
theorem exists_fetchInstr_eq_instrOf (s : State) : ∃ op b1 b2, (fetchInstr s).instr = instrOf op b1 b2 := by
  dsimp only [fetchInstr]
  split <;> exact ⟨_, _, _, rfl⟩

/-- R61: of the instructions that are fetched, BRK alone has opcode $00. -/
theorem fetchInstr_opcode_eq_zero_iff (s : State) :
    (fetchInstr s).instr.opcode = 0x00 ↔ (fetchInstr s).instr = .brk := by
  obtain ⟨op, b1, b2, hinstr⟩ := exists_fetchInstr_eq_instrOf s
  rw [hinstr]
  refine ⟨fun hop => ?_, fun hbrk => hbrk ▸ rfl⟩
  rw [opcode_instrOf] at hop
  rw [hop]
  rfl

/-- R150, R161: an unknown opcode is no BRK, and leaves the run's beginning. -/
theorem executedBrk_of_execUndefined {op : Byte} {s c : State} (h : execUndefined op s = .next c) :
    executedBrk c = false ∧ c.run = s.run := by
  have hbrk {t : State} (hunknown : t.lastResult.unknown = true) : executedBrk t = false := by
    rw [executedBrk, hunknown, Bool.not_true, Bool.and_false]
  unfold execUndefined at h
  split at h <;> cases h <;> exact ⟨hbrk rfl, rfl⟩

/-- R161: one instruction leaves the run's beginning, and is BRK exactly when BRK was fetched. -/
theorem executedBrk_of_runInstruction {s c : State} (h : runInstruction s = .next c) :
    (executedBrk c = true ↔ (fetchInstr s).instr = .brk) ∧ c.run = s.run := by
  have hfetch : (fetchInstr s).st.run = s.run := (congrArg State.run (fetchInstr_rest s) :)
  by_cases hundefined : ∃ op, (fetchInstr s).instr = .undefined op
  · obtain ⟨op, hop⟩ := hundefined
    rw [runInstruction, hop] at h
    obtain ⟨hbrk, hrun⟩ := executedBrk_of_execUndefined h
    exact ⟨by simp [hbrk, hop], hrun.trans hfetch⟩
  · obtain ⟨u, k, hnext, hrest⟩ := exec_retires _ (fetchInstr s).st (not_exists.mp hundefined)
    obtain rfl : u.retire _ k = c := Host.Outcome.next.inj (hnext.symm.trans h)
    exact ⟨by simpa [executedBrk, resultOf] using fetchInstr_opcode_eq_zero_iff s,
      (congrArg State.run hrest :).trans hfetch⟩

theorem poll_ne_none (s : State) : poll s ≠ .none := by
  unfold poll
  split
  · simp
  · split <;> simp

/-- R161: a CPU step leaves the run's beginning, and is BRK exactly when the poll chose an instruction and it was BRK. -/
theorem executedBrk_of_cpuStep {s c : State} (h : cpuStep s = .next c) :
    (executedBrk c = true ↔ poll s = .instruction ∧ (fetchInstr s).instr = .brk) ∧ c.run = s.run := by
  unfold cpuStep at h
  cases hpoll : poll s with
  | nmiEntry | irqEntry =>
    rw [hpoll] at h
    cases h
    exact ⟨by simp [executedBrk, State.nmiEntry, State.irqEntry, State.interrupt],
      by simp [State.nmiEntry, State.irqEntry, State.interrupt]⟩
  | instruction =>
    rw [hpoll] at h
    simpa using executedBrk_of_runInstruction h
  | none => exact absurd hpoll (poll_ne_none s)

theorem keeps_cpuStep {s c : State} (h : cpuStep s = .next c) : Keeps s c := by
  obtain ⟨t, ht, hkeeps⟩ := cpuStep_continues s
  obtain rfl : t = c := Host.Outcome.next.inj (ht.symm.trans h)
  exact hkeeps

/-! ### The stop conditions (R161) -/

theorem reached_iff (budget : Option Nat) (used : Nat) :
    reached budget used = true ↔ ∃ n, budget = some n ∧ n ≤ used := by
  cases budget <;> simp [reached]

/-- R164: after a CPU step, the step of a running machine is what follows it. -/
theorem step_of_cpuStep {s c : State} (hrunning : s.runStatus = .running) (h : cpuStep s = .next c) :
    step s = .next c.finishStep := by
  rw [step_of_running hrunning, systemStep_of_cpuStep h]

/-- Settles O58: the step's status is `stopCondition` of the state after the catch-up, whose conditions are those of the
statement. -/
theorem stopOrder : Obligations.StopOrder := by
  intro s c hrunning hcpu u e brk instrs cycles
  obtain ⟨hbrk, hrun⟩ := executedBrk_of_cpuStep hcpu
  have hcfg : u.cfg = s.cfg := (keeps_catchUp c).cfg.trans (keeps_cpuStep hcpu).cfg
  have hurun : u.run = s.run := (congrArg State.run c.catchUp_eq :).trans hrun
  have hustatus : u.runStatus = c.runStatus := (congrArg State.runStatus c.catchUp_eq :)
  have hubrk : (executedBrk u && u.cfg.stopOnBrk) = true ↔ brk := by
    have hexecuted : executedBrk u = executedBrk c := (congrArg executedBrk c.catchUp_eq :)
    rw [Bool.and_eq_true, hexecuted, hbrk, hcfg, and_assoc]
  have hinstrs : reached u.cfg.maxInstructions (u.instructionsExecuted - u.run.startInstructions) = true ↔ instrs := by
    rw [reached_iff, hcfg, hurun]
  have hcycles : reached u.cfg.maxCycles (u.totalCycles - u.run.startCycles) = true ↔ cycles := by
    rw [reached_iff, hcfg, hurun]
  have hstatus : c.finishStep.runStatus = stopCondition u e := rfl
  refine ⟨_, step_of_cpuStep hrunning hcpu, rfl, ?_⟩
  simp only [hstatus, stopCondition, hustatus, hubrk, hinstrs, hcycles]
  refine ⟨fun r hr => ?_, fun hr hb => ?_, fun hr hb hi => ?_, fun hr hb hi hc => ?_, fun hr hb hi hc he => ?_,
    fun hr hb hi hc he => ?_⟩ <;> simp only [hr]
  · exact if_pos hb
  · rw [if_neg hb, if_pos hi]
  · rw [if_neg hb, if_neg hi, if_pos hc]
  · rw [if_neg hb, if_neg hi, if_neg hc, if_pos he]
  · rw [if_neg hb, if_neg hi, if_neg hc, if_neg (Bool.eq_false_iff.mp he)]

end Sys2Proof.Machine
end

section
/-! PROOFS. The VIC-II (R169, R170, R172 to R175): the constants of the variants, one cycle of the raster state machine and
n of them as a position in the frame, the raster interrupt, and what a frame shows of a register. -/

namespace Sys2Proof.Machine

open Spec

/-! ### The constants of the variants (R169) -/

theorem timingOf_pal (c : Config) : timingOf c .pal = ⟨63, 312⟩ := rfl

theorem timingOf_ntsc (c : Config) : timingOf c .ntsc = ⟨64, 262⟩ := rfl

theorem visibleAreas (c : Config) : VisibleAreas c := by
  intro m hm area
  have hsupplied (f : PerVicModel) : suppliedFor f m.1 = m.2 f := by
    simp only [List.mem_cons, List.not_mem_nil, or_false] at hm
    obtain rfl | rfl | rfl := hm <;> rfl
  have hfigure (f : PerVicModel) (openFigure : Nat) : (suppliedFor f m.1).getD openFigure
      = (match m.2 f with | some n => n | none => openFigure) := by
    rw [hsupplied]
    cases m.2 f <;> rfl
  exact ⟨hfigure _ _, hfigure _ _, hfigure _ _, Int.sub_add_cancel _ _, Int.sub_add_cancel _ _⟩

/-! ### One cycle (R170, R174) -/

section
variable {t : Timing} {v : Vic}

theorem vicTick_within (h : v.cycleInLine + 1 ≠ t.cyclesPerLine) :
    vicTick t v = { v with cycleInLine := v.cycleInLine + 1 } := if_neg h

theorem vicTick_lineEnd (h : v.cycleInLine + 1 = t.cyclesPerLine) : vicTick t v = vicEnterLine t v := if_pos h

/-- R170: lines are entered in turn, the first after the last. -/
theorem vicEnterLine_rasterLine (h : v.rasterLine < t.lines) :
    (vicEnterLine t v).rasterLine = (v.rasterLine + 1) % t.lines := by
  unfold vicEnterLine
  split
  · next hlast => rw [hlast, Nat.mod_self]
  · next hlast => exact (Nat.mod_eq_of_lt (by omega : v.rasterLine + 1 < t.lines)).symm

variable (t v)

theorem vicEnterLine_cycleInLine : (vicEnterLine t v).cycleInLine = 0 := rfl

/-- R170: the frame wraps at the end of its last line. -/
theorem vicEnterLine_frameComplete :
    (vicEnterLine t v).frameComplete = true ↔ v.frameComplete = true ∨ v.rasterLine + 1 = t.lines := by
  unfold vicEnterLine
  split <;> simp [vicWrapFrame, *]

theorem vicEnterLine_registers : (vicEnterLine t v).regs = v.regs ∧ (vicEnterLine t v).compare = v.compare
    ∧ (vicEnterLine t v).enable = v.enable := by
  unfold vicEnterLine
  split <;> exact ⟨rfl, rfl, rfl⟩

/-- R174: the raster latch is set when the line entered is the compare line. -/
theorem vicEnterLine_latch : (vicEnterLine t v).latch
    = if (vicEnterLine t v).rasterLine = v.compare.toNat then v.latch ||| 1 else v.latch := by
  unfold vicEnterLine
  split <;> rfl

theorem vicTick_registers : (vicTick t v).regs = v.regs ∧ (vicTick t v).compare = v.compare
    ∧ (vicTick t v).enable = v.enable := by
  unfold vicTick
  split
  · exact vicEnterLine_registers t v
  · exact ⟨rfl, rfl, rfl⟩

end

/-! ### The raster position (R168, R170) -/

theorem vicTicks_add (t : Timing) (m n : Nat) (v : Vic) : vicTicks t (m + n) v = vicTicks t n (vicTicks t m v) := by
  induction m generalizing v with
  | zero =>
    rw [Nat.zero_add]
    rfl
  | succ m ih =>
    rw [Nat.add_right_comm]
    exact ih (vicTick t v)

theorem vicAdvance_succ (t : Timing) (n : Nat) (v : Vic) : vicAdvance t (n + 1) v = vicTick t (vicAdvance t n v) :=
  vicTicks_add t n 1 _

theorem vicAdvance_registers (t : Timing) (n : Nat) (v : Vic) : (vicAdvance t n v).regs = v.regs
    ∧ (vicAdvance t n v).compare = v.compare ∧ (vicAdvance t n v).enable = v.enable := by
  induction n with
  | zero => exact ⟨rfl, rfl, rfl⟩
  | succ n ih =>
    obtain ⟨hregs, hcompare, henable⟩ := vicTick_registers t (vicAdvance t n v)
    rw [vicAdvance_succ, hregs, hcompare, henable]
    exact ih

/-- The raster position in cycles from the start of the frame. -/
def frameCycle (t : Timing) (v : Vic) : Nat := v.rasterLine * t.cyclesPerLine + v.cycleInLine

section
variable {t : Timing} {v : Vic}

theorem Vic.InFrame.positive (h : v.InFrame t) : t.positive = true := by
  have hline := h.line
  have hcycle := h.cycle
  simp only [Timing.positive, Bool.and_eq_true, decide_eq_true_eq]
  omega

theorem Vic.InFrame.frameCycle_lt (h : v.InFrame t) : frameCycle t v < t.cyclesPerLine * t.lines :=
  calc frameCycle t v < (v.rasterLine + 1) * t.cyclesPerLine := by
        have := h.cycle
        rw [frameCycle, Nat.succ_mul]
        omega
    _ ≤ t.lines * t.cyclesPerLine := Nat.mul_le_mul_right _ h.line
    _ = t.cyclesPerLine * t.lines := Nat.mul_comm _ _

/-- R170: at the end of a line the position is the number of lines begun. -/
theorem frameCycle_lineEnd (h : v.cycleInLine + 1 = t.cyclesPerLine) :
    frameCycle t v + 1 = (v.rasterLine + 1) * t.cyclesPerLine := by
  rw [frameCycle, Nat.succ_mul]
  omega

/-- R170: one cycle moves the position on by 1, and wraps the frame from its last cycle. -/
theorem vicTick_frameCycle (h : v.InFrame t) :
    frameCycle t (vicTick t v) = (frameCycle t v + 1) % (t.cyclesPerLine * t.lines)
      ∧ ((vicTick t v).frameComplete = true
          ↔ v.frameComplete = true ∨ frameCycle t v + 1 = t.cyclesPerLine * t.lines) := by
  by_cases hend : v.cycleInLine + 1 = t.cyclesPerLine
  · have hpositive : 0 < t.cyclesPerLine := by omega
    rw [vicTick_lineEnd hend, frameCycle_lineEnd hend, Nat.mul_comm t.cyclesPerLine, Nat.mul_mod_mul_right,
      Nat.mul_left_inj hpositive.ne', vicEnterLine_frameComplete, frameCycle, vicEnterLine_rasterLine h.line]
    exact ⟨rfl, Iff.rfl⟩
  · have hwithin : frameCycle t (vicTick t v) = frameCycle t v + 1 := by rw [vicTick_within hend]; rfl
    have hlt := (vicTick_inFrame h.positive h).frameCycle_lt
    rw [hwithin] at hlt ⊢
    rw [Nat.mod_eq_of_lt hlt, vicTick_within hend]
    exact ⟨rfl, (or_iff_left hlt.ne).symm⟩

/-- R170: after n cycles. -/
theorem vicAdvance_frameCycle (h : v.InFrame t) (n : Nat) :
    frameCycle t (vicAdvance t n v) = (frameCycle t v + n) % (t.cyclesPerLine * t.lines)
      ∧ ((vicAdvance t n v).frameComplete = true ↔ t.cyclesPerLine * t.lines ≤ frameCycle t v + n) := by
  have hlt := h.frameCycle_lt
  induction n with
  | zero => exact ⟨(Nat.mod_eq_of_lt hlt).symm, by simpa [vicAdvance, vicTicks] using hlt⟩
  | succ n ih =>
    obtain ⟨hposition, hcomplete⟩ := ih
    obtain ⟨hnext, hwrap⟩ := vicTick_frameCycle (vicAdvance_inFrame h.positive n h)
    rw [vicAdvance_succ, hnext, hwrap, hposition, hcomplete]
    refine ⟨by rw [Nat.mod_add_mod, Nat.add_assoc], ?_⟩
    by_cases hbefore : frameCycle t v + n < t.cyclesPerLine * t.lines
    · rw [Nat.mod_eq_of_lt hbefore]
      omega
    · omega

end

/-- Settles O49: the constants are the definitions', and the position is `frameCycle`. -/
theorem rasterPosition : Obligations.RasterPosition := by
  refine ⟨fun c => ⟨timingOf_pal c, timingOf_ntsc c, fun t ht => ?_, congrArg cyclesPerFrame (timingOf_pal c),
    congrArg cyclesPerFrame (timingOf_ntsc c), visibleAreas c⟩,
    fun t v n => ⟨rfl, vicAdvance_succ t n v⟩, fun t v n h => ?_⟩
  · simp [timingOf, ht]
  · obtain ⟨hposition, hcomplete⟩ := vicAdvance_frameCycle h n
    exact ⟨hposition, vicAdvance_inFrame h.positive n h, hcomplete, vicAdvance_registers t n v⟩

/-! ### The raster interrupt (R174) -/

/-- Two bit vectors share a bit exactly when their conjunction is not zero: `irq_out` of a chip. -/
theorem and_ne_zero_iff {w : Nat} (x y : BitVec w) :
    x &&& y ≠ 0 ↔ ∃ k < w, x.getLsbD k = true ∧ y.getLsbD k = true := by
  rw [ne_eq, BitVec.eq_of_getLsbD_eq_iff]
  simp

/-- R174: a cycle sets the raster latch when it enters the compare line. -/
theorem vicTick_latch {t : Timing} {v : Vic} (h : v.InFrame t) :
    (vicTick t v).latch.getLsbD 0 = true ↔ v.latch.getLsbD 0 = true
      ∨ (v.cycleInLine + 1 = t.cyclesPerLine ∧ (v.rasterLine + 1) % t.lines = v.compare.toNat) := by
  by_cases hend : v.cycleInLine + 1 = t.cyclesPerLine
  · rw [vicTick_lineEnd hend, vicEnterLine_latch, vicEnterLine_rasterLine h.line]
    split <;> simp [*]
  · simp [vicTick_within hend, hend]

/-- R174: $D012 gives bits 7-0 of the compare value. -/
theorem vicWrite_compare_low (v : Vic) (b : Byte) :
    (vicWrite v 0x12 b).compare.toNat = v.compare.toNat / 256 * 256 + b.toNat := by
  have hlt := v.compare.isLt
  have hb := b.isLt
  have hwrite : (vicWrite v 0x12 b).compare = (v.compare &&& 0x100#9) ||| b.setWidth 9 := rfl
  have hhigh : (v.compare &&& 0x100#9).toNat = (v.compare.toNat / 256) <<< 8 := by
    have hbit : v.compare.toNat &&& 2 ^ 8 = v.compare.toNat / 2 ^ 8 % 2 * 2 ^ 8 := by
      rw [Nat.and_two_pow, Nat.toNat_testBit]
    rw [BitVec.toNat_and, Nat.shiftLeft_eq]
    exact hbit.trans (by omega)
  have hlow : (b.setWidth 9).toNat = b.toNat := by
    rw [BitVec.toNat_setWidth]
    omega
  rw [hwrite, BitVec.toNat_or, hhigh, hlow, ← Nat.shiftLeft_add_eq_or_of_lt hb, Nat.shiftLeft_eq]

/-- R174: bit 7 of $D011 gives bit 8 of the compare value. -/
theorem vicWrite_compare_high (v : Vic) (b : Byte) :
    (vicWrite v 0x11 b).compare.toNat = v.compare.toNat % 256 + (if b.getLsbD 7 then 256 else 0) := by
  have hwrite : (vicWrite v 0x11 b).compare = (v.compare &&& 0x0FF#9) ||| (if b.getLsbD 7 then 0x100#9 else 0) := rfl
  have hlow : (v.compare &&& 0x0FF#9).toNat = v.compare.toNat % 256 := by
    rw [BitVec.toNat_and]
    exact Nat.and_two_pow_sub_one_eq_mod _ 8
  rw [hwrite, BitVec.toNat_or, hlow]
  split
  · have hsum := Nat.shiftLeft_add_eq_or_of_lt (Nat.mod_lt v.compare.toNat (by decide : 0 < 2 ^ 8)) 1
    rw [Nat.or_comm, Nat.add_comm]
    exact hsum.symm
  · exact Nat.or_zero _

/-- R174: $D019 reads as the latch, with `vic_irq_out` in bit 7 and bits 6-4 set. -/
theorem vicReadValue_latch (v : Vic) :
    (vicReadValue v 0x19).toNat = v.latch.toNat + 0x70 + (if vicIrqOut v then 0x80 else 0) := by
  have hvalue : ∀ (latch : BitVec 4) (irq : Bool),
      (latch.setWidth 8 ||| (if irq then 0x80 else 0x00) ||| 0x70 : Byte).toNat
        = latch.toNat + 0x70 + (if irq then 0x80 else 0) := by decide
  exact hvalue v.latch (vicIrqOut v)

/-- Settles O50: the latch after a cycle, and what writes and reads of the registers concerned give. -/
theorem rasterInterrupt : Obligations.RasterInterrupt := by
  refine ⟨fun t v h => vicTick_latch h, fun v b k hk => ?_,
    fun v b => ⟨rfl, rfl, vicWrite_compare_low v b, vicWrite_compare_high v b⟩, fun v => ⟨?_, vicReadValue_latch v⟩⟩
  · have hlatch : (vicWrite v 0x19 b).latch = v.latch &&& ~~~(b.setWidth 4) := rfl
    simp [hlatch, hk]
  · rw [vicIrqOut, decide_eq_true_iff, and_ne_zero_iff]

/-! ### What a frame shows of a register (R175) -/

/-- R175: the last write logged is the one shown of its register from its line on. -/
theorem frameRegOnLine_append (f : FrameLog) (w : VicWrite) (reg line : Nat) :
    frameRegOnLine { f with writes := f.writes ++ [w] } reg line
      = if w.reg = reg ∧ w.line ≤ line then w.value else frameRegOnLine f reg line := by
  unfold frameRegOnLine
  rw [List.filter_append]
  split_ifs with h
  · simp [h]
  · have hskip : [w].filter (fun w => w.reg == reg && decide (w.line ≤ line)) = [] := by simpa using h
    rw [hskip, List.append_nil]

/-- R172, R175: a stored write is logged with its raster line. -/
theorem vicWrite_frame {v : Vic} {reg : Nat} (b : Byte) (hstored : vicWriteIgnored reg = false) (h19 : reg ≠ 0x19) :
    (vicWrite v reg b).frame = { v.frame with writes := v.frame.writes ++ [⟨v.rasterLine, reg, b⟩] } := by
  rw [vicWrite, if_neg (by simp [hstored]), if_neg h19]

/-- Settles O56: the write is the last one logged. -/
theorem rasterEffectsNeverRetroactive : Obligations.RasterEffectsNeverRetroactive := by
  intro v reg line b hstored h19
  rw [vicWrite_frame b hstored h19, frameRegOnLine_append]
  exact ⟨fun h => if_neg fun hshown => absurd hshown.2 (by simpa using h), fun h => if_pos ⟨rfl, h⟩⟩

end Sys2Proof.Machine
end

section
/-! PROOFS. The CIAs (R184 to R187): a timer by itself, to which the advance of a CIA reduces, the registers, the interrupt
control register, and the keyboard and joysticks on the ports. -/

namespace Sys2Proof.Machine

open Spec

/-- A mask with one 0 clears its bit and keeps the others. -/
theorem getLsbD_and_not_twoPow (b : Byte) (k i : Nat) :
    (b &&& ~~~(BitVec.twoPow 8 k)).getLsbD i = (b.getLsbD i && i != k) := by
  by_cases hi : i < 8
  · by_cases hik : i = k
    · simp [hik, hik ▸ hi]
    · simp [hi, hik, BitVec.getElem_twoPow]
  · simp [BitVec.getLsbD_of_ge _ _ (Nat.le_of_not_lt hi)]

/-! ### A timer by itself (R185) -/

/-- R185: n cycles of a timer, and whether it underflowed in them. -/
def timerAdvance : Nat → CiaTimer → CiaTimer × Bool
  | 0, t => (t, false)
  | n + 1, t => ((timerAdvance n (timerTick t).1).1, (timerTick t).2 || (timerAdvance n (timerTick t).1).2)

section
variable {t : CiaTimer}

theorem timerTick_stopped (h : timerStarted t = false) : timerTick t = (t, false) := by simp [timerTick, h]

theorem timerTick_counting (h : timerStarted t = true) (hcounter : t.counter ≠ 0) :
    timerTick t = ({ t with counter := t.counter - 1 }, false) := by
  rw [timerTick, if_neg (by simp [h]), if_neg hcounter]

theorem timerTick_underflow (h : timerStarted t = true) (hcounter : t.counter = 0) :
    timerTick t
      = ({ t with counter := t.latch, control := if timerOneShot t then t.control &&& 0xFE else t.control }, true) := by
  rw [timerTick, if_neg (by simp [h]), if_pos hcounter]

theorem timerAdvance_add (m n : Nat) (t : CiaTimer) : timerAdvance (m + n) t
    = ((timerAdvance n (timerAdvance m t).1).1, (timerAdvance m t).2 || (timerAdvance n (timerAdvance m t).1).2) := by
  induction m generalizing t with
  | zero => simp [timerAdvance]
  | succ m ih => simp [Nat.add_right_comm m 1 n, timerAdvance, ih, Bool.or_assoc]

/-- R185: a stopped timer stands. -/
theorem timerAdvance_stopped (h : timerStarted t = false) (n : Nat) : timerAdvance n t = (t, false) := by
  induction n with
  | zero => rfl
  | succ n ih => simp [timerAdvance, timerTick_stopped h, ih]

/-- R185: a started timer counts down to 0 without an underflow. -/
theorem timerAdvance_counting (h : timerStarted t = true) {n : Nat} (hn : n ≤ t.counter.toNat) :
    timerAdvance n t = ({ t with counter := t.counter - BitVec.ofNat 16 n }, false) := by
  induction n generalizing t with
  | zero => simp [timerAdvance]
  | succ n ih =>
    have hcounter : t.counter ≠ 0 := by bv_omega
    have hlater : n ≤ (t.counter - 1).toNat := by bv_omega
    have hsum : t.counter - 1 - BitVec.ofNat 16 n = t.counter - BitVec.ofNat 16 (n + 1) := by bv_omega
    have hrest := ih (t := { t with counter := t.counter - 1 }) h hlater
    simp only [timerAdvance, timerTick_counting h hcounter, hrest, hsum, Bool.or_false]

/-- R185: the cycle after 0 reloads the counter and underflows. -/
theorem timerAdvance_underflow (h : timerStarted t = true) : timerAdvance (t.counter.toNat + 1) t
    = ({ t with counter := t.latch, control := if timerOneShot t then t.control &&& 0xFE else t.control }, true) := by
  rw [timerAdvance_add, timerAdvance_counting h le_rfl]
  have hzero : t.counter - BitVec.ofNat 16 t.counter.toNat = 0 := by simp
  rw [hzero]
  have htick := timerTick_underflow (t := { t with counter := 0 }) h rfl
  simp only [timerAdvance, htick, Bool.or_false, Bool.false_or]
  rfl

/-- R185: a continuous timer underflows again every latch + 1 cycles. -/
theorem timerAdvance_continuous (h : timerStarted t = true) (hmode : timerOneShot t = false) (j : Nat) :
    timerAdvance (t.counter.toNat + 1 + j * (t.latch.toNat + 1)) t = ({ t with counter := t.latch }, true) := by
  induction j with
  | zero => simp [timerAdvance_underflow h, hmode]
  | succ j ih =>
    have hagain := timerAdvance_underflow (t := { t with counter := t.latch }) h
    have hmode' : timerOneShot { t with counter := t.latch } = false := hmode
    rw [Nat.succ_mul, ← Nat.add_assoc, timerAdvance_add, ih, hagain]
    simp [hmode']

/-- R185: a one-shot timer underflows once, and stands stopped at its latch. -/
theorem timerAdvance_oneShot (h : timerStarted t = true) (hmode : timerOneShot t = true) {n : Nat}
    (hn : t.counter.toNat < n) :
    timerAdvance n t = ({ t with counter := t.latch, control := t.control &&& 0xFE }, true) := by
  obtain ⟨m, rfl⟩ := Nat.exists_eq_add_of_lt hn
  have hstopped : timerStarted { t with counter := t.latch, control := t.control &&& 0xFE } = false := by
    simp [timerStarted]
  rw [Nat.add_right_comm, timerAdvance_add, timerAdvance_underflow h, if_pos hmode, timerAdvance_stopped hstopped]
  rfl

end

/-! ### The timers of a CIA -/

/-- R185: an underflow of timer A sets latch bit 0, one of timer B bit 1. -/
theorem ciaTick_latch (c : Cia) (i : Nat) : (ciaTick c).latch.getLsbD i
    = (c.latch.getLsbD i || decide (i = 0) && (timerTick c.timerA).2 || decide (i = 1) && (timerTick c.timerB).2) := by
  have hbit (k : Nat) (hk : k < 5) (f : Bool) :
      (if f then BitVec.twoPow 5 k else 0).getLsbD i = (decide (i = k) && f) := by
    cases f <;> simp [BitVec.getLsbD_twoPow, hk, eq_comm]
  have hlatch : (ciaTick c).latch = c.latch ||| (if (timerTick c.timerA).2 then BitVec.twoPow 5 0 else 0)
      ||| (if (timerTick c.timerB).2 then BitVec.twoPow 5 1 else 0) := rfl
  rw [hlatch, BitVec.getLsbD_or, BitVec.getLsbD_or, hbit 0 (by decide), hbit 1 (by decide)]

/-- R185: cycle by cycle, timer k runs by itself, and its underflow sets latch bit k. -/
theorem ciaAdvance_timerOf {k : Nat} (hk : k < 2) (n : Nat) (c : Cia) :
    timerOf (ciaAdvance n c) k = (timerAdvance n (timerOf c k)).1
      ∧ (ciaAdvance n c).latch.getLsbD k = (c.latch.getLsbD k || (timerAdvance n (timerOf c k)).2) := by
  induction n generalizing c with
  | zero => simp [ciaAdvance, timerAdvance]
  | succ n ih =>
    have htimer : timerOf (ciaTick c) k = (timerTick (timerOf c k)).1 := by
      simp only [timerOf]
      split <;> rfl
    have hlatch : (ciaTick c).latch.getLsbD k = (c.latch.getLsbD k || (timerTick (timerOf c k)).2) := by
      rw [ciaTick_latch]
      interval_cases k <;> simp [timerOf]
    obtain ⟨ht, hl⟩ := ih (ciaTick c)
    rw [ciaAdvance, ht, hl, htimer, hlatch, Bool.or_assoc]
    exact ⟨rfl, rfl⟩

theorem timerCounts (c : Cia) {k : Nat} (hk : k < 2) : TimerCounts c k := by
  unfold TimerCounts
  intro t
  have hadvance := fun n => ciaAdvance_timerOf hk n c
  refine ⟨fun hstarted n hn => ?_, fun hstarted hmode j => ?_, fun hstarted hmode n hn => ?_, fun hstopped n => ?_⟩
  · obtain ⟨htimer, hlatch⟩ := hadvance n
    rw [htimer, hlatch, timerAdvance_counting hstarted hn]
    refine ⟨?_, rfl, rfl, Bool.or_false _⟩
    dsimp only
    bv_omega
  · obtain ⟨htimer, hlatch⟩ := hadvance (t.counter.toNat + 1 + j * (t.latch.toNat + 1))
    dsimp only
    rw [htimer, hlatch, timerAdvance_continuous hstarted hmode]
    exact ⟨rfl, Bool.or_true _⟩
  · obtain ⟨htimer, hlatch⟩ := hadvance n
    rw [htimer, hlatch, timerAdvance_oneShot hstarted hmode hn]
    refine ⟨rfl, rfl, by simp, fun i hi => ?_, Bool.or_true _⟩
    exact (getLsbD_and_not_twoPow t.control 0 i).trans (by simp [hi.ne'])
  · obtain ⟨htimer, hlatch⟩ := hadvance n
    rw [htimer, hlatch, timerAdvance_stopped hstopped]
    exact ⟨rfl, Bool.or_false _⟩

/-! ### The timers' registers (R184, R185) -/

section
variable (t : CiaTimer) (b : Byte)

theorem timerWriteLo_latch : (timerWriteLo t b).latch.toNat = t.latch.toNat / 256 * 256 + b.toNat := by
  rw [timerWriteLo, toNat_cat, toNat_hi]

theorem timerWriteHi_latch : (timerWriteHi t b).latch.toNat = b.toNat * 256 + t.latch.toNat % 256 := by
  have hlatch : (timerWriteHi t b).latch = cat b (lo t.latch) := by
    unfold timerWriteHi
    split <;> rfl
  rw [hlatch, toNat_cat, toNat_lo]

/-- R185: the high byte loads a stopped counter. -/
theorem timerWriteHi_counter :
    (timerWriteHi t b).counter = if timerStarted t then t.counter else (timerWriteHi t b).latch := by
  unfold timerWriteHi
  split <;> rfl

/-- R184: bit 4 of a control register is not stored. -/
theorem timerWriteControl_control (i : Nat) :
    (timerWriteControl t b).control.getLsbD i = (b.getLsbD i && i != 4) := getLsbD_and_not_twoPow b 4 i

end

theorem timerRegisters (c : Cia) {k : Nat} (hk : k < 2) (b : Byte) : TimerRegisters c k b := by
  have hlo : timerOf (ciaWrite c (4 + 2 * k) b) k = timerWriteLo (timerOf c k) b := by interval_cases k <;> rfl
  have hhi : timerOf (ciaWrite c (5 + 2 * k) b) k = timerWriteHi (timerOf c k) b := by interval_cases k <;> rfl
  have hcontrol : timerOf (ciaWrite c (0xE + k) b) k = timerWriteControl (timerOf c k) b := by
    interval_cases k <;> rfl
  unfold TimerRegisters
  rw [hlo, hhi, hcontrol]
  refine ⟨⟨timerWriteLo_latch _ b, rfl, rfl⟩,
    ⟨timerWriteHi_latch _ b, timerWriteHi_control _ b, timerWriteHi_counter _ b⟩,
    ⟨rfl, rfl, timerWriteControl_control _ b⟩, fun reg hreg => ?_, fun id inp => ?_⟩
  · simp only [List.mem_cons, List.not_mem_nil, or_false] at hreg
    obtain rfl | rfl | rfl := hreg <;> interval_cases k <;> exact ⟨rfl, rfl⟩
  · rw [← toNat_lo, ← toNat_hi]
    interval_cases k <;> exact ⟨rfl, rfl⟩

/-! ### The other registers of a CIA (R184) -/

/-- R184: an advance reaches the timers and the latch bits 0 and 1 only. -/
theorem ciaAdvance_frame (n : Nat) (c : Cia) :
    ciaAdvance n c = { c with
      timerA := (ciaAdvance n c).timerA, timerB := (ciaAdvance n c).timerB, latch := (ciaAdvance n c).latch }
    ∧ ∀ i, 2 ≤ i → (ciaAdvance n c).latch.getLsbD i = c.latch.getLsbD i := by
  induction n generalizing c with
  | zero => exact ⟨rfl, fun _ _ => rfl⟩
  | succ n ih =>
    obtain ⟨hframe, hlatch⟩ := ih (ciaTick c)
    refine ⟨hframe, fun i hi => (hlatch i hi).trans ?_⟩
    have hzero : i ≠ 0 := by omega
    have hone : i ≠ 1 := by omega
    simp [ciaTick_latch, hzero, hone]

theorem ciaRegisters (c : Cia) (b : Byte) : CiaRegisters c b := by
  refine ⟨rfl, rfl, rfl, rfl, fun id inp => ⟨rfl, rfl, rfl, rfl⟩, fun inp => ⟨rfl, rfl⟩, rfl, rfl,
    fun id r h h' => ⟨if_pos ⟨h, h'⟩, ?_⟩, fun r hr => ?_, fun n => ciaAdvance_frame n c⟩
  · interval_cases r <;> rfl
  · have hspecified : ¬(8 ≤ r ∧ r ≤ 0xC) := by omega
    refine ⟨if_neg hspecified, fun h => ?_⟩
    rw [ciaReadMask, if_neg hspecified, if_neg (by omega), if_neg (by omega)]

/-- Settles O51: the timers are each `timerAdvance` by itself. -/
theorem timerPeriod : Obligations.TimerPeriod :=
  ⟨fun c _ b hk => ⟨timerCounts c hk, timerRegisters c hk b⟩, ciaRegisters⟩

/-! ### The interrupt control register (R186) -/

/-- R186: bit 7 of a write says whether it sets or clears the mask bits that it names. -/
theorem icrWrite_mask (c : Cia) (b : Byte) {k : Nat} (hk : k < 5) :
    (icrWrite c b).mask.getLsbD k = if b.getLsbD k then b.getLsbD 7 else c.mask.getLsbD k := by
  unfold icrWrite bit7
  cases b.getLsbD 7 <;> cases hb : b.getLsbD k <;> simp [hk, hb]

theorem icrValue_toNat (c : Cia) : (icrValue c).toNat = c.latch.toNat + (if ciaIrqOut c then 128 else 0) := by
  have hvalue : ∀ (latch : BitVec 5) (irq : Bool),
      (latch.setWidth 8 ||| (if irq then 0x80 else 0x00) : Byte).toNat
        = latch.toNat + (if irq then 128 else 0) := by decide
  exact hvalue c.latch (ciaIrqOut c)

/-- Settles O52: the register's read, its clearing of the latch, and its write. -/
theorem interruptControl : Obligations.InterruptControl := by
  refine fun c inp id b => ⟨icrValue_toNat c, rfl, by simp [ciaIrqOut, ciaAfterRead], ?_, fun k => icrWrite_mask c b, ?_⟩
  · rw [ciaIrqOut, decide_eq_true_iff, and_ne_zero_iff]
  · show (icrWrite c b).latch = c.latch
    unfold icrWrite
    split <;> rfl

/-! ### Keyboard and joysticks (R187) -/

theorem getLsbD_byteOf (f : Nat → Bool) {i : Nat} (hi : i < 8) : (byteOf f).getLsbD i = f i := by
  have hflag (b : Byte) (k : Nat) : (if f k then b ||| (1#8 <<< k) else b) = b ||| flagBit (f k) k := by
    cases f k <;> simp [flagBit]
  have hflags : byteOf f = flagBit (f 0) 0 ||| flagBit (f 1) 1 ||| flagBit (f 2) 2 ||| flagBit (f 3) 3
      ||| flagBit (f 4) 4 ||| flagBit (f 5) 5 ||| flagBit (f 6) 6 ||| flagBit (f 7) 7 := by
    simp [byteOf, hflag, List.range_succ]
  rw [hflags]
  interval_cases i <;> simp [getElem_flagBit]

theorem keyboardRows_getLsbD (keys : List (Nat × Nat)) (pra : Byte) {r : Nat} (hr : r < 8) :
    (keyboardRows keys pra).getLsbD r = false ↔ ∃ col < 8, pra.getLsbD col = false ∧ (col, r) ∈ keys := by
  rw [keyboardRows, getLsbD_byteOf _ hr]
  simp

/-- R187: a closed switch reads as 0. -/
theorem joystickLow_getLsbD (j : BitVec 5) {r : Nat} (hr : r < 8) : (joystickLow j).getLsbD r = !j.getLsbD r := by
  simp [joystickLow, hr]

/-- Settles O55: port B is the rows and joystick 1, port A the stored byte and joystick 2. -/
theorem keyboardScan : Obligations.KeyboardScan := by
  intro c inp r hr
  have hb : ciaReadValue .cia1 inp c 1 = keyboardRows inp.keys c.pra &&& joystickLow inp.joystick1 := rfl
  have ha : ciaReadValue .cia1 inp c 0 = c.pra &&& joystickLow inp.joystick2 := rfl
  rw [ha, hb, BitVec.getLsbD_and, BitVec.getLsbD_and, joystickLow_getLsbD _ hr, joystickLow_getLsbD _ hr,
    Bool.and_eq_false_iff, keyboardRows_getLsbD _ _ hr, Bool.not_eq_false']
  exact ⟨Iff.rfl, rfl⟩

end Sys2Proof.Machine
end

section
/-! PROOFS. The SID (R177 to R182): which voice a register write reaches, what each register stores with its command, the
phases of the control register, and the envelope. -/

namespace Sys2Proof.Machine

open Spec

/-! ### A register of a voice reaches that voice alone (R178) -/

/-- The SID with voice k replaced. -/
def Sid.withVoice (s : Sid) (k : Nat) (v : Voice) : Sid :=
  if k = 0 then { s with voice0 := v } else if k = 1 then { s with voice1 := v } else { s with voice2 := v }

section
variable (s : Sid) {k : Nat} (hk : k < 3) (v : Voice)
include hk

theorem voiceOf_withVoice_same : voiceOf (s.withVoice k v) k = v := by interval_cases k <;> rfl

theorem voiceOf_withVoice_other {j : Nat} (hj : j < 3) (hjk : j ≠ k) : voiceOf (s.withVoice k v) j = voiceOf s j := by
  interval_cases k <;> interval_cases j <;> simp_all [voiceOf, Sid.withVoice]

theorem withVoice_frame : s.withVoice k v = { s with
    voice0 := (s.withVoice k v).voice0, voice1 := (s.withVoice k v).voice1, voice2 := (s.withVoice k v).voice2 } := by
  interval_cases k <;> rfl

/-- R178: the seven registers at 7k are voice k's. -/
theorem sidWrite_voice {r : Nat} (hr : r < 7) (b : Byte) :
    sidWrite s (7 * k + r) b = s.withVoice k (voiceWrite s.modeVolume (voiceOf s k) r b) := by
  unfold sidWrite
  interval_cases k
  · rw [if_pos (by omega), Nat.mul_zero, Nat.zero_add]
    rfl
  · rw [if_neg (by omega), if_pos (by omega), Nat.mul_one, Nat.add_sub_cancel_left]
    rfl
  · rw [if_neg (by omega), if_neg (by omega), if_pos (by omega), Nat.add_sub_cancel_left]
    rfl

end

/-! ### What each register stores, and its command (R178, R182) -/

theorem toNat_append_eq_add {m n : Nat} (x : BitVec m) (y : BitVec n) : (x ++ y).toNat = x.toNat * 2 ^ n + y.toNat := by
  rw [BitVec.toNat_append, ← Nat.shiftLeft_add_eq_or_of_lt y.isLt, Nat.shiftLeft_eq]

section
variable (mv : Byte) (v : Voice) (b : Byte)

theorem voiceWrite_freqLo : (voiceWrite mv v 0 b).freq.toNat = v.freq.toNat / 256 * 256 + b.toNat := by
  rw [← toNat_hi]
  exact toNat_cat _ _

theorem voiceWrite_freqHi : (voiceWrite mv v 1 b).freq.toNat = b.toNat * 256 + v.freq.toNat % 256 := by
  rw [← toNat_lo]
  exact toNat_cat _ _

theorem voiceWrite_pwLo : (voiceWrite mv v 2 b).pw.toNat = v.pw.toNat / 256 * 256 + b.toNat := by
  have hlt := v.pw.isLt
  have hpw : (voiceWrite mv v 2 b).pw = v.pw.extractLsb' 8 4 ++ b := rfl
  rw [hpw, toNat_append_eq_add, BitVec.extractLsb'_toNat, Nat.shiftRight_eq_div_pow]
  omega

theorem voiceWrite_pwHi : (voiceWrite mv v 3 b).pw.toNat = b.toNat % 16 * 256 + v.pw.toNat % 256 := by
  have hpw : (voiceWrite mv v 3 b).pw = b.extractLsb' 0 4 ++ v.pw.extractLsb' 0 8 := rfl
  rw [hpw, toNat_append_eq_add, BitVec.extractLsb'_toNat, BitVec.extractLsb'_toNat]
  rfl

end

theorem voiceRegisters (s : Sid) {k : Nat} (hk : k < 3) (b : Byte) : VoiceRegisters s k b := by
  unfold VoiceRegisters
  intro v u
  have hu (r : Nat) (hr : r < 7) : u r = voiceWrite s.modeVolume v r b :=
    (congrArg (voiceOf · k) (sidWrite_voice s hk hr b)).trans (voiceOf_withVoice_same s hk _)
  rw [hu 0 (by decide), hu 1 (by decide), hu 2 (by decide), hu 3 (by decide), hu 4 (by decide), hu 5 (by decide),
    hu 6 (by decide)]
  refine ⟨voiceWrite_freqLo _ v b, voiceWrite_freqHi _ v b, voiceWrite_pwLo _ v b, voiceWrite_pwHi _ v b,
    fun r hr => ?_, fun r hr => ?_, rfl, rfl, rfl, rfl, rfl, rfl, fun r hr => ?_⟩
  · simp only [List.mem_cons, List.not_mem_nil, or_false] at hr
    obtain rfl | rfl := hr <;> rw [hu _ (by decide)] <;> exact ⟨rfl, rfl⟩
  · simp only [List.mem_cons, List.not_mem_nil, or_false] at hr
    obtain rfl | rfl := hr <;> rw [hu _ (by decide)] <;> exact ⟨rfl, rfl⟩
  · dsimp only
    rw [sidWrite_voice s hk hr b]
    exact ⟨withVoice_frame s hk _, fun j hj => voiceOf_withVoice_other s hk _ hj⟩

/-- R182: a command that concerns no one voice is recorded in each, with its own values. -/
theorem voiceOf_sidRecordAll (kind : CommandKind) (s : Sid) (k : Nat) :
    voiceOf (sidRecordAll kind s) k = voiceRecord kind s.modeVolume (voiceOf s k) := by
  unfold voiceOf
  split
  · rfl
  · split <;> rfl

theorem globalRegisters (s : Sid) (b : Byte) : GlobalRegisters s b := by
  unfold GlobalRegisters
  intro w onlyCommands
  have hall (kind : CommandKind) (t : Sid) (ht : ∀ k, voiceOf t k = voiceOf s k) :
      onlyCommands kind (sidRecordAll kind t) := by
    intro k _
    rw [voiceOf_sidRecordAll, ht]
    exact ⟨rfl, rfl⟩
  refine ⟨⟨rfl, hall _ _ fun _ => rfl⟩, ⟨rfl, rfl, rfl⟩, fun r hr => ?_, fun r hr => ?_, fun r hr => ?_⟩
  · simp only [List.mem_cons, List.not_mem_nil, or_false] at hr
    obtain rfl | rfl | rfl := hr <;> exact ⟨rfl, hall _ _ fun _ => rfl⟩
  · simp only [List.mem_cons, List.not_mem_nil, or_false] at hr
    obtain rfl | rfl | rfl | rfl := hr
    · exact ⟨fun h => absurd rfl h, fun _ => rfl, fun _ => rfl⟩
    · exact ⟨fun _ => rfl, fun h => absurd rfl h, fun _ => rfl⟩
    · exact ⟨fun _ => rfl, fun _ => rfl, fun h => absurd rfl h⟩
    · exact ⟨fun _ => rfl, fun _ => rfl, fun _ => rfl⟩
  · simp only [w, sidWrite]
    rw [if_neg (by omega), if_neg (by omega), if_neg (by omega), if_neg (by omega), if_neg (by omega),
      if_neg (by omega), if_neg (by omega)]

/-! ### The control register (R179) -/

theorem and_F0_eq_zero_iff (w : Byte) : w &&& 0xF0 = 0 ↔ w.toNat / 16 = 0 := by
  revert w
  decide

section
variable {v : Voice} {w : Byte}

theorem controlWrite_stop (h : w.toNat / 16 = 0) :
    controlWrite v w = ({ v with phase := .idle, level := 0, control := w }, .stop) :=
  if_pos ((and_F0_eq_zero_iff w).mpr h)

variable (h : w.toNat / 16 ≠ 0)
include h

theorem controlWrite_attack (hw : w.getLsbD 0 = true) (hv : v.control.getLsbD 0 = false) :
    controlWrite v w = ({ v with phase := .attack, control := w }, .startADS) := by
  rw [controlWrite, if_neg (mt (and_F0_eq_zero_iff w).mp h), if_pos (by rw [hw, hv]; rfl)]

theorem controlWrite_release (hw : w.getLsbD 0 = false) (hv : v.control.getLsbD 0 = true)
    (hphase : gateHeld v.phase = true) :
    controlWrite v w = ({ v with phase := .release, control := w }, .startRelease) := by
  rw [controlWrite, if_neg (mt (and_F0_eq_zero_iff w).mp h), if_neg (by rw [hw]; exact Bool.false_ne_true),
    if_pos (by rw [hw, hv, hphase]; rfl)]

/-- R179: with the gate as it was, or cleared in a phase that does not hold it, a write leaves phase and level. -/
theorem controlWrite_other
    (hgate : w.getLsbD 0 = v.control.getLsbD 0 ∨ w.getLsbD 0 = false ∧ gateHeld v.phase = false) :
    controlWrite v w = ({ v with control := w }, .none) := by
  have hattack : ¬(w.getLsbD 0 && !v.control.getLsbD 0) = true := by
    rcases hgate with hsame | ⟨hw, -⟩
    · rw [hsame, Bool.and_not_self]
      exact Bool.false_ne_true
    · rw [hw]
      exact Bool.false_ne_true
  have hrelease : ¬(!w.getLsbD 0 && v.control.getLsbD 0 && gateHeld v.phase) = true := by
    rcases hgate with hsame | ⟨-, hphase⟩
    · rw [hsame, Bool.not_and_self]
      exact Bool.false_ne_true
    · rw [hphase, Bool.and_false]
      exact Bool.false_ne_true
  rw [controlWrite, if_neg (mt (and_F0_eq_zero_iff w).mp h), if_neg hattack, if_neg hrelease]

end

theorem controlWrite_control (v : Voice) (w : Byte) : (controlWrite v w).1.control = w := by
  unfold controlWrite
  split_ifs <;> rfl

/-- R179: only a write without a waveform moves the level. -/
theorem controlWrite_level {w : Byte} (h : w.toNat / 16 ≠ 0) (v : Voice) : (controlWrite v w).1.level = v.level := by
  rw [controlWrite, if_neg (mt (and_F0_eq_zero_iff w).mp h)]
  split_ifs <;> rfl

theorem voiceWrite_control (mv : Byte) (v : Voice) (w : Byte) :
    voiceWrite mv v 4 w = voiceRecord (controlWrite v w).2 mv (controlWrite v w).1 := rfl

/-- Settles O53: the registers by `sidWrite_voice`, the phases by the cases of `controlWrite`. -/
theorem gateMovesPhase : Obligations.GateMovesPhase := by
  refine ⟨fun s b => ⟨fun k hk => voiceRegisters s hk b, globalRegisters s b⟩, fun mv v w => ?_⟩
  rw [voiceWrite_control]
  refine ⟨controlWrite_control v w, fun h => ?_, fun h => controlWrite_level h v, fun h hw hv => ?_,
    fun h hw hv hphase => ?_, fun h hsame => ?_, fun h hw hphase => ?_⟩
  · rw [controlWrite_stop h]
    exact ⟨rfl, rfl, rfl⟩
  · rw [controlWrite_attack h hw hv]
    exact ⟨rfl, rfl⟩
  · have hheld : gateHeld v.phase = true := by rcases hphase with hp | hp | hp <;> rw [hp] <;> rfl
    rw [controlWrite_release h hw hv hheld]
    exact ⟨rfl, rfl⟩
  · rw [controlWrite_other h (.inl hsame)]
    exact ⟨rfl, rfl⟩
  · have hfree : gateHeld v.phase = false := by rcases hphase with hp | hp <;> rw [hp] <;> rfl
    rw [controlWrite_other h (.inr ⟨hw, hfree⟩)]
    exact ⟨rfl, rfl⟩

/-! ### The envelope (R180, R181) -/

theorem durationsTabled (v : Voice) : DurationsTabled v := by
  have hhigh : v.ad.toNat / 16 < 16 := by omega
  have hlow : v.ad.toNat % 16 < 16 := Nat.mod_lt _ (by decide)
  have hlow' : v.sr.toNat % 16 < 16 := Nat.mod_lt _ (by decide)
  have hattack : ∀ code < 16, [2, 8, 16, 24, 38, 56, 68, 80, 100, 250, 500, 800, 1000, 3000, 5000, 8000][code]?
    = some (attackMsOf code) := by decide
  have hdecay : ∀ code < 16, [6, 24, 48, 72, 114, 168, 204, 240, 300, 750, 1500, 2400, 3000, 9000, 15000, 24000][code]?
    = some (decayMsOf code) := by decide
  exact ⟨hattack _ hhigh, hdecay _ hlow, hdecay _ hlow'⟩

theorem sidClockHz_pos (c : Config) : 0 < sidClockHz c := by
  unfold sidClockHz
  split <;> exact Nat.succ_pos _

theorem sidClockHz_supplied {c : Config} {hz : Nat} (hpos : 0 < hz) (h : c.sidClockHz = some hz) : sidClockHz c = hz := by
  obtain ⟨n, rfl⟩ := Nat.exists_eq_succ_of_ne_zero hpos.ne'
  rw [sidClockHz, h]

section
variable {v : Voice} (ms : Rat)

theorem voiceAdvance_attack (h : v.phase = .attack) :
    (voiceAdvance ms v).level = min 1 (v.level + ms / voiceAttackMs v)
      ∧ (voiceAdvance ms v).phase = if 1 ≤ v.level + ms / voiceAttackMs v then .decay else .attack := by
  simp only [voiceAdvance, h]
  split_ifs with hend
  · exact ⟨(min_eq_left hend).symm, rfl⟩
  · exact ⟨(min_eq_right (le_of_not_ge hend)).symm, rfl⟩

theorem voiceAdvance_decay (h : v.phase = .decay) :
    (voiceAdvance ms v).level = max (sustainLevel v) (v.level - ms / voiceDecayMs v)
      ∧ (voiceAdvance ms v).phase = if v.level - ms / voiceDecayMs v ≤ sustainLevel v then .sustain else .decay := by
  simp only [voiceAdvance, h]
  split_ifs with hend
  · exact ⟨(max_eq_left hend).symm, rfl⟩
  · exact ⟨(max_eq_right (le_of_not_ge hend)).symm, rfl⟩

theorem voiceAdvance_release (h : v.phase = .release) :
    (voiceAdvance ms v).level = max 0 (v.level - ms / voiceReleaseMs v)
      ∧ (voiceAdvance ms v).phase = if v.level - ms / voiceReleaseMs v ≤ 0 then .idle else .release := by
  simp only [voiceAdvance, h]
  split_ifs with hend
  · exact ⟨(max_eq_left hend).symm, rfl⟩
  · exact ⟨(max_eq_right (le_of_not_ge hend)).symm, rfl⟩

theorem voiceAdvance_sustain (h : v.phase = .sustain) : voiceAdvance ms v = v := by
  rw [voiceAdvance, h]

theorem voiceAdvance_idle (h : v.phase = .idle) : voiceAdvance ms v = { v with level := 0 } := by
  rw [voiceAdvance, h]

end

/-- Settles O54: each phase by its own case of `voiceAdvance`. -/
theorem envelopeRamps : Obligations.EnvelopeRamps := by
  refine ⟨fun c n s => rfl, fun c => ⟨sidClockHz_pos c, fun hz => sidClockHz_supplied⟩, durationsTabled,
    fun c n v => ⟨voiceAdvance_attack _, voiceAdvance_decay _, fun h => ?_, voiceAdvance_release _, fun h => ?_⟩⟩
  · rw [voiceAdvance_sustain _ h]
    exact ⟨rfl, h⟩
  · rw [voiceAdvance_idle _ h]
    exact ⟨rfl, h⟩

end Sys2Proof.Machine
end

section
/-! PROOFS. The chips' catch-up (R164, R151, R171, D17): the cycles stolen on the lines that a step enters, and what the
catch-up and the stop conditions leave as it was. -/

namespace Sys2Proof.Machine

open Spec

/-! ### Cycles stolen by badlines (R171, D17) -/

section
variable (c : Config) (t : Timing)

theorem stolenOver_fst (n : Nat) (v : Vic) : (stolenOver c t n v).1 = vicTicks t n v := by
  induction n generalizing v with
  | zero => rfl
  | succ n ih => exact ih (vicTick t v)

theorem stolenOver_add (m n : Nat) (v : Vic) :
    (stolenOver c t (m + n) v).2 = (stolenOver c t m v).2 + (stolenOver c t n (vicTicks t m v)).2 := by
  induction m generalizing v with
  | zero => simp [stolenOver, vicTicks]
  | succ m ih =>
    rw [Nat.add_right_comm]
    simp only [stolenOver, vicTicks, ih, Nat.add_assoc]

/-- R171: one cycle steals the cycles of the line it enters. -/
theorem stolenOver_one (v : Vic) :
    (stolenOver c t 1 v).2 = if v.cycleInLine + 1 = t.cyclesPerLine then stolenOnLine c (vicTick t v) else 0 := rfl

/-- No cycles, no line entered, nothing stolen. -/
theorem stolenCycles_zero (fuel : Nat) (v : Vic) : stolenCycles c t fuel 0 v = 0 := by
  cases fuel <;> rfl

/-- D17: the cycles stolen in one round count, and are advanced in the next. -/
theorem stolenCycles_succ (fuel n : Nat) (v : Vic) : stolenCycles c t (fuel + 1) n v
    = (stolenOver c t n v).2 + stolenCycles c t fuel (stolenOver c t n v).2 (vicTicks t n v) := by
  rw [stolenCycles, ← stolenOver_fst c]
  split
  · next hnone => rw [hnone, stolenCycles_zero]
  · rfl

variable {c t}

/-- A supplied 0 steals nothing. -/
theorem stolenOver_of_number_zero (h : c.badlineStolenCycles = some (.number 0)) (n : Nat) (v : Vic) :
    (stolenOver c t n v).2 = 0 := by
  have hline (w : Vic) : stolenOnLine c w = 0 := by rw [stolenOnLine, h]; rfl
  induction n generalizing v with
  | zero => rfl
  | succ n ih => simp only [stolenOver, hline, ite_self, ih]

/-- R170: cycles that end within the line. -/
theorem vicTicks_within {n : Nat} {v : Vic} (h : v.cycleInLine + n < t.cyclesPerLine) :
    vicTicks t n v = { v with cycleInLine := v.cycleInLine + n } := by
  induction n with
  | zero => rfl
  | succ n ih =>
    have hbefore := ih (by omega)
    rw [vicTicks_add t n 1, hbefore]
    exact vicTick_within (Nat.ne_of_lt h)

/-- R171: cycles that enter no line steal nothing. -/
theorem stolenOver_within {n : Nat} {v : Vic} (h : v.cycleInLine + n < t.cyclesPerLine) : (stolenOver c t n v).2 = 0 := by
  induction n with
  | zero => rfl
  | succ n ih =>
    rw [stolenOver_add, ih (by omega), vicTicks_within (by omega), stolenOver_one, Nat.zero_add]
    exact if_neg (Nat.ne_of_lt h)

theorem stolenCycles_within {n : Nat} {v : Vic} (h : v.cycleInLine + n < t.cyclesPerLine) (fuel : Nat) :
    stolenCycles c t fuel n v = 0 := by
  cases fuel with
  | zero => rfl
  | succ fuel => rw [stolenCycles_succ, stolenOver_within h, stolenCycles_zero]

/-- R171: the cycle that enters a line steals that line's cycles, of the state as it is entered. -/
theorem stolenOver_lineEnd {k : Nat} {v : Vic} (hk : 0 < k) (h : v.cycleInLine + k = t.cyclesPerLine) :
    (stolenOver c t k v).2 = stolenOnLine c (vicTicks t k v) ∧ (vicTicks t k v).cycleInLine = 0 := by
  obtain ⟨k, rfl⟩ := Nat.exists_eq_add_one_of_ne_zero hk.ne'
  have hbefore : v.cycleInLine + k < t.cyclesPerLine := by omega
  have hend : (vicTicks t k v).cycleInLine + 1 = t.cyclesPerLine := by rw [vicTicks_within hbefore]; exact h
  have hentered : vicTicks t (k + 1) v = vicTick t (vicTicks t k v) := vicTicks_add t k 1 v
  rw [stolenOver_add, stolenOver_within hbefore, stolenOver_one, if_pos hend, Nat.zero_add, hentered]
  exact ⟨rfl, by rw [vicTick_lineEnd hend, vicEnterLine_cycleInLine]⟩

/-- D17: n cycles that enter one line, k cycles on, where the stolen cycles enter no other. -/
theorem stolenCycles_one_line {k n stolen : Nat} {v : Vic} (hk : 0 < k) (h : v.cycleInLine + k = t.cyclesPerLine)
    (hkn : k ≤ n) (hstolen : stolenOnLine c (vicTicks t k v) = stolen) (hrest : n - k + stolen < t.cyclesPerLine)
    (fuel : Nat) : stolenCycles c t (fuel + 1) n v = stolen := by
  obtain ⟨m, rfl⟩ := Nat.exists_eq_add_of_le hkn
  obtain ⟨hover, hzero⟩ := stolenOver_lineEnd (c := c) hk h
  have hafter : (vicTicks t k v).cycleInLine + m < t.cyclesPerLine := by omega
  have hposition : (vicTicks t (k + m) v).cycleInLine = m := by
    rw [vicTicks_add, vicTicks_within hafter]
    exact (congrArg (· + m) hzero).trans (Nat.zero_add m)
  rw [stolenCycles_succ, stolenOver_add, hover, stolenOver_within hafter, hstolen,
    stolenCycles_within (by rw [hposition]; omega), Nat.add_zero]

end

/-! ### The cycles of a step (R164) -/

section
variable {s : State} {t : Timing}

theorem catchUpCycles_of_number_zero (h : s.cfg.badlineStolenCycles = some (.number 0)) :
    catchUpCycles s t = s.stepCycles := by
  rw [catchUpCycles, stolenCycles_succ, stolenOver_of_number_zero h, stolenCycles_zero, Nat.add_zero]

/-- A step that enters no line. -/
theorem catchUpCycles_within (h : s.dev.vic.cycleInLine + s.stepCycles < t.cyclesPerLine) :
    catchUpCycles s t = s.stepCycles := by
  rw [catchUpCycles, stolenCycles_within (v := vicAdvance t 0 s.dev.vic) h, Nat.add_zero]

/-- A step that enters one line, k cycles on, and whose stolen cycles enter no other. -/
theorem catchUpCycles_one_line {f : VicFn} {k : Nat} (hf : s.cfg.badlineStolenCycles = some f) (hk : 0 < k)
    (hend : s.dev.vic.cycleInLine + k = t.cyclesPerLine) (hkn : k ≤ s.stepCycles)
    (hrest : s.stepCycles - k
      + vicFnValue (vicAdvance t k s.dev.vic).rasterLine (vicAdvance t k s.dev.vic) f < t.cyclesPerLine) :
    catchUpCycles s t
      = s.stepCycles + vicFnValue (vicAdvance t k s.dev.vic).rasterLine (vicAdvance t k s.dev.vic) f := by
  have hstolen : stolenOnLine s.cfg (vicAdvance t k s.dev.vic)
      = vicFnValue (vicAdvance t k s.dev.vic).rasterLine (vicAdvance t k s.dev.vic) f := by rw [stolenOnLine, hf]
  rw [catchUpCycles, stolenCycles_one_line (v := vicAdvance t 0 s.dev.vic) hk hend hkn hstolen hrest]

end

/-! ### The catch-up of the C64 (R151, R164) -/

theorem State.catchUp_bare {s : State} (h : s.cfg.platform = .bare) :
    s.catchUp = { s with totalCycles := s.totalCycles + s.stepCycles } := by
  simp only [State.catchUp, h]

theorem State.catchUp_c64 {s : State} {m : VicModel} (h : s.cfg.platform = .c64 m) :
    let n := catchUpCycles s (timingOf s.cfg m)
    s.catchUp = { (s.withDev (devicesAdvance s.cfg (timingOf s.cfg m) n s.dev)).refreshLines with
      totalCycles := s.totalCycles + n } := by
  simp only [State.catchUp, h]

/-- The stop conditions read the state after the catch-up, and change the trigger record and the run status only. -/
theorem State.finishStep_eq (s : State) :
    s.finishStep = { s.catchUp with lastTrigger := s.finishStep.lastTrigger, runStatus := s.finishStep.runStatus } := rfl

/-- Settles O41: `catchUp_eq` says what stays, the equation of each platform what changes. -/
theorem catchUpLeavesCpu : Obligations.CatchUpLeavesCpu := by
  intro s
  have hfield {α : Type} (f : State → α) := congrArg f s.catchUp_eq
  refine ⟨⟨hfield State.a, hfield State.x, hfield State.y, hfield State.sp, hfield State.pc, hfield State.p⟩,
    fun w _ => hfield (·.ramByte w), hfield State.instructionsExecuted, hfield State.lastResult, hfield State.cfg,
    hfield State.hooks, hfield State.inputs, fun h => ?_, fun m h => ?_⟩
  · rw [State.finishStep_eq, State.catchUp_bare h]
    exact ⟨rfl, rfl, rfl, rfl, rfl⟩
  · rw [State.finishStep_eq, State.catchUp_c64 h]
    exact ⟨rfl, Nat.le_add_right _ _, catchUpCycles_of_number_zero, catchUpCycles_within,
      fun f k hf hk hend hkn hrest => catchUpCycles_one_line hf hk hend hkn hrest, rfl, rfl, rfl, rfl, rfl, rfl, rfl,
      rfl, rfl, (nmiIsEdgeTriggered _ _).2⟩

end Sys2Proof.Machine
end

section
/-! PROOFS. RESET (R190, R31) and the loader (R195): what RESET sets and leaves, the frame of a run of stores, and where
its bytes stand. -/

namespace Sys2Proof.Machine

/-! ### RESET (R190, R31) -/

theorem State.applyReset_p (s : State) :
    s.applyReset.p = { n := false, v := false, d := false, i := true, z := false, c := false } := rfl

@[simp] theorem State.applyReset_pc (s : State) : s.applyReset.pc = (s.read16 resetVector).1 := rfl

@[simp] theorem State.applyReset_dev (s : State) : s.applyReset.dev = (s.read16 resetVector).2.dev := rfl

@[simp] theorem State.applyReset_ramByte (s : State) (c : Word) : s.applyReset.ramByte c = s.ramByte c :=
  s.read16_ramByte c resetVector

/-- Settles O57: RESET reads the vector, which writes no RAM and of plain cells has no effect, and sets the rest. -/
theorem resetValues : Obligations.ResetValues := by
  intro s
  refine ⟨rfl, rfl, rfl, rfl, ?_, rfl, rfl, rfl, rfl, rfl, fun c _ => s.applyReset_ramByte c, fun hlow hhigh => ?_⟩
  · rw [State.applyReset_p]
    decide
  · have hvector : s.read16 resetVector = (cat (s.ramByte 0xFFFD) (s.ramByte 0xFFFC), s) :=
      State.read16_plain hlow hhigh
    rw [State.applyReset_pc, State.applyReset_dev, hvector]
    exact ⟨toNat_cat _ _, rfl⟩

/-! ### The loader (R195) -/

@[simp] theorem State.writeBytes_cons (s : State) (a : Word) (b : Byte) (bs : List Byte) :
    s.writeBytes a (b :: bs) = (s.memWrite a b).writeBytes (a + 1) bs := rfl

/-- A run of stores changes RAM and device state only. -/
theorem State.writeBytes_eq (s : State) (a : Word) (bs : List Byte) :
    s.writeBytes a bs = (s.withRam (s.writeBytes a bs).ram).withDev (s.writeBytes a bs).dev := by
  induction bs generalizing s a with
  | nil => rfl
  | cons b bs ih => exact ih (s.memWrite a b) (a + 1)

theorem add_ofNat_succ (a : Word) (k : Nat) : a + BitVec.ofNat 16 (k + 1) = a + 1 + BitVec.ofNat 16 k := by
  bv_omega

/-- The addresses of a run of at most 65536 bytes do not meet: the first is none of those after it. -/
theorem ne_add_one_add_ofNat (a : Word) {k : Nat} (h : k < 65535) : a ≠ a + 1 + BitVec.ofNat 16 k := by
  bv_omega

/-- A run of stores leaves every byte of RAM outside it. -/
theorem State.writeBytes_ramByte_other (s : State) {a c : Word} {bs : List Byte}
    (h : ∀ k < bs.length, c ≠ a + BitVec.ofNat 16 k) : (s.writeBytes a bs).ramByte c = s.ramByte c := by
  induction bs generalizing s a with
  | nil => rfl
  | cons b bs ih =>
    have hhead : c ≠ a := by simpa using h 0 (Nat.zero_lt_succ _)
    have htail : ∀ k < bs.length, c ≠ a + 1 + BitVec.ofNat 16 k := fun k hk =>
      add_ofNat_succ a k ▸ h (k + 1) (Nat.succ_lt_succ hk)
    rw [State.writeBytes_cons, ih _ htail, s.memWrite_ramByte_other b hhead]

/-- With no writer hook, byte k of a run of at most 65536 bytes stands k places on, modulo 65536: the stores after it do
not come round to its address. -/
theorem State.writeBytes_ramByte {s : State} {a : Word} {bs : List Byte} {k : Nat} (hram : s.ram.wf ramSize = true)
    (hwriters : s.hooks.writers = []) (hlen : bs.length ≤ 65536) (hk : k < bs.length) :
    (s.writeBytes a bs).ramByte (a + BitVec.ofNat 16 k) = bs[k] := by
  induction bs generalizing s a k with
  | nil => contradiction
  | cons b bs ih =>
    rw [List.length_cons] at hlen hk
    rw [State.writeBytes_cons]
    cases k with
    | zero =>
      have hlater : ∀ k < bs.length, a ≠ a + 1 + BitVec.ofNat 16 k := fun k hk => ne_add_one_add_ofNat a (by omega)
      rw [BitVec.add_zero, State.writeBytes_ramByte_other _ hlater]
      exact State.memWrite_ramByte_same b (by rw [hwriters, hookAt_nil]) hram
    | succ k =>
      rw [add_ofNat_succ, List.getElem_cons_succ]
      exact ih (State.memWrite_ram_wf a b hram) hwriters (by omega) (by omega)

theorem State.loadWithHeader_cons (s : State) (b0 b1 : Byte) (data : List Byte) :
    s.loadWithHeader (b0 :: b1 :: data)
      = some (s.writeBytes (cat b1 b0) data, ⟨cat b1 b0, data.length⟩) := rfl

/-- Settles O60: the load is a run of stores from the header's address. -/
theorem loaderPlacesBytes : Obligations.LoaderPlacesBytes := by
  intro s t r b0 b1 data hram hwriters hlen hload
  rw [State.loadWithHeader_cons, Option.some.injEq, Prod.mk.injEq] at hload
  obtain ⟨rfl, rfl⟩ := hload
  have hfield {α : Type} (f : State → α) := congrArg f (s.writeBytes_eq (cat b1 b0) data)
  refine ⟨toNat_cat _ _, rfl, fun k hk => ?_, hfield State.pc, hfield State.a, hfield State.x, hfield State.y,
    hfield State.sp, hfield State.p⟩
  rw [State.writeBytes_ramByte hram hwriters hlen hk, List.getElem?_eq_getElem hk]

end Sys2Proof.Machine
end
